-- ==== Sys2Proof/Word.lean ====
section
/-! DEFINITION. The value types of the block: bytes, addresses, zone numbers and station sets. -/

namespace Sys2Proof

/-- One byte of the host port or of a peer line message. -/
abbrev Byte := BitVec 8

/-- A station address, 0 to 15 (R2, Table 6-1). -/
abbrev Addr := Fin 16

/-- A zone number, 0 to 63 (R1). -/
abbrev ZoneId := Fin 64

/-- A set of station addresses: bit i, of weight 2 to the power i, stands for address i
(Chapter 11, opening paragraph). -/
abbrev StationSet := BitVec 16

/-- A 64-bit flag set: zone z stands at bit z of the value (R190). -/
abbrev ZoneFlags := BitVec 64

end Sys2Proof
end

