-- ==== Sys2Proof/Config.lean ====
section
/-! DEFINITION. The numbers the manual fixes for the part. No value of the part is left open by
the manual as a free value (NOTES.md, Assumptions), so no uninterpreted constant stands here. -/

namespace Sys2Proof.Config

/-- Line cycles in one tick (R6). -/
def cyclesPerTick : Nat := 64

/-- Records a zone's wait queue holds at most (R2). -/
def waitQueueCapacity : Nat := 4

/-- Entries the send queue holds at most (R147). -/
def sendQueueCapacity : Nat := 8

/-- The wait count at which a CLAIM with the wait flag is refused (R148, R157). -/
def waitsCapacity : Nat := 16

/-- Records the event queue holds as themselves; the next place is the OVERFLOW record's (R163). -/
def eventRoom : Nat := 31

/-- Free entries a destination needs to accept a NOTE (R40, R165). -/
def noteRoom : Nat := 4

/-- The largest lost count of an OVERFLOW record (R163). -/
def lostMax : Nat := 255

/-- The hold-off of an objected SYNC duty, in cycles (R129). -/
def holdOffCycles : Nat := 8

/-- Consecutive cycles with no committed SNAP that make a join stall (R91). -/
def stallLimit : Nat := 128

/-- Listening cycles after the START command (R99). -/
def listenCycles : Nat := 2

/-- The largest formation count (R95, R102). -/
def formationMax : Nat := 255

/-- The largest silence count (R67). -/
def silenceMax : Nat := 31

/-- The largest mismatch count (R67). -/
def mismatchMax : Nat := 3

/-- The mismatch count that makes an eviction candidate (R70). -/
def mismatchLimit : Nat := 2

/-- The divergence count at which a SYNCED station doubts (R73). -/
def divergenceLimit : Nat := 2

/-- The readback run count at which a station faults (R145). -/
def readbackLimit : Nat := 3

/-- The value at which a line counter stops (R146). -/
def lineCounterMax : Nat := 65535

/-- The index of a transfer's last snapshot block (R61, R88). -/
def lastBlock : Nat := 64

/-- The index of the first roster-free place of the progress: a transfer reaching it is complete (R61). -/
def blockCount : Nat := 65

/-- The NOTE destination that means all members (R33). -/
def allMembers : Nat := 16

/-- The largest NOTE length (R33). -/
def noteMax : Nat := 12

end Sys2Proof.Config
end

