-- ==== Sys2Proof/Syntax.lean ====
section
/-! DEFINITION. The commands of the block: one constructor per row of spec/opcode_table.json, with
what the outside gives each: the bytes the host shifts in, or what the station samples on the peer
line since the point before. -/

namespace Sys2Proof

/-- A level on PLD (R135): dominant is low and stands for a 0 bit, recessive is high and stands for
a 1 bit. -/
inductive Level where
  | dominant
  | recessive
  deriving DecidableEq, Repr

/-- The sixteen status slots of a cycle as read, slot i at address i, each as the 16-bit number the
line carries (Table 11-2): bit 15 is the start bit, 0 when dominant. -/
abbrev Slots := Vector (BitVec 16) 16

/-- The 20 bytes of a message segment as read: header, payload, CRC (R29). -/
abbrev MessageBytes := Vector Byte 20

/-- The claim segment as read (Table 11-1): the start bit's level, the two class bits and the four
address bits, each as the number the line carries. The guard bit is not used (R122). -/
structure ClaimRead where
  start : Level
  cls   : BitVec 2
  addr  : Addr
  deriving DecidableEq, Repr

/-- One copy of the verdict segment as read: bit i of each map is set when the bit of address i
read dominant (R34, Table 11-1). -/
structure VerdictCopy where
  accept : StationSet
  object : StationSet
  deriving DecidableEq, Repr

/-- A cycle mark: timely (R136), or early at a bit of the cycle (R141), with the level the claim
start bit had when it was read (it matters only for a mark that falls after that bit and before the
end of the claim segment). -/
inductive Mark where
  | timely
  | early (bit : Fin 512) (claimStart : Level)
  deriving DecidableEq, Repr

/-- The end of a line cycle for the blocks that count cycles: its verdict point, or the early mark
that cuts it (R91, R129). -/
inductive CycleEnd where
  | verdict (a b : VerdictCopy)
  | cut (bit : Fin 512) (claimStart : Level)
  deriving DecidableEq, Repr

/-- The host commands (Table 10-2). -/
inductive HostCommand where
  | configure | start | stop | join | leave
  | claim | renew | release | cancel | note | recall
  | veto | watch
  | readZone | readRoster | readStation
  | fetchEvent | ackEvent
  | reset
  deriving DecidableEq, Repr

/-- The commands and events of the block, one constructor per row of spec/opcode_table.json.

A row that names a host command is the taking of that command (R174): the completion of its last
parameter byte, or of its command byte when it has none; its operands are the command's parameter
bytes in the order sent (Table 10-2). A row that names a point of the line cycle carries what the
station read since the point before. A row that names the reaching of a limit (LEASE_EXPIRY,
LISTEN_CHECK_PASSED, FORMATION_WAIT_EXPIRY, EVICTION_CANDIDATE, DIVERGENCE, READBACK_FAULT,
RETRY_LIMIT_REACHED, JOIN_STALL, HOLD_OFF_EXPIRY) is the point at which the limit is reached, with
that point's own operands. -/
inductive Instr where
  /-- HARDWARE_RESET (R192): RST# goes low, power is applied, or the supply falls below 3.0 V. -/
  | hardwareReset
  /-- RST_RELEASE (R172): RST# rises. -/
  | rstRelease
  /-- CS_FALL (R173): CS# falls. -/
  | csFall
  /-- CS_RISE (R177): CS# rises. -/
  | csRise
  /-- UNKNOWN_COMMAND (R177): a command byte that stands for no command completes. -/
  | unknownCommand (code : Byte)
  /-- CONFIGURE (R96, R178): its five parameter bytes. -/
  | configure (address silenceLimit formationWait retryLimit rejoin : Byte)
  /-- START (R99). -/
  | start
  /-- STOP (R100). -/
  | stop
  /-- JOIN (R101). -/
  | join
  /-- LEAVE (R104, R107). -/
  | leave
  /-- CLAIM (R148, R179): tag, zone, mode, wait flag, duration. -/
  | claim (tag zone mode wait duration : Byte)
  /-- RENEW (R148, R179): tag, zone, duration. -/
  | renew (tag zone duration : Byte)
  /-- RELEASE (R148, R179): tag, zone. -/
  | release (tag zone : Byte)
  /-- CANCEL (R148, R179): tag, zone. -/
  | cancel (tag zone : Byte)
  /-- NOTE (R148, R179): tag, destination, length and the data bytes. -/
  | note (tag destination length : Byte) (data : List Byte)
  /-- RECALL (R152, R180): tag. -/
  | recall (tag : Byte)
  /-- VETO (R182): zone, flag. -/
  | veto (zone flag : Byte)
  /-- WATCH (R183): zone, flag. -/
  | watch (zone flag : Byte)
  /-- READ_ZONE (R184): zone. -/
  | readZone (zone : Byte)
  /-- READ_ROSTER (R185). -/
  | readRoster
  /-- READ_STATION (R186). -/
  | readStation
  /-- FETCH_EVENT (R166, R187). -/
  | fetchEvent
  /-- ACK_EVENT (R167, R187): sequence number. -/
  | ackEvent (sequence : Byte)
  /-- RESET (R188): the RESET command. -/
  | reset
  /-- CYCLE_MARK (R136): a timely mark. -/
  | cycleMark
  /-- LEASE_EXPIRY (R22): the mark at which the lease of the zone runs out. -/
  | leaseExpiry (zone : ZoneId) (mark : Mark)
  /-- EARLY_MARK (R141): a mark at the bit named. -/
  | earlyMark (bit : Fin 512) (claimStart : Level)
  /-- LOST_MARK (R142). -/
  | lostMark
  /-- STATUS_POINT (R68): the sixteen slots as read. -/
  | statusPoint (slots : Slots)
  /-- LISTEN_CHECK_PASSED (R99): the status point at which the listen count reaches 2. -/
  | listenCheckPassed (slots : Slots)
  /-- FORMATION_WAIT_EXPIRY (R102): the status point at which the formation count reaches the wait. -/
  | formationWaitExpiry (slots : Slots)
  /-- EVICTION_CANDIDATE (R70): the status point at which a SYNCED station has a candidate. -/
  | evictionCandidate (slots : Slots)
  /-- DIVERGENCE (R73): the status point at which the divergence count reaches 2. -/
  | divergence (slots : Slots)
  /-- SELECTION_POINT (R118). -/
  | selectionPoint
  /-- ARBITRATION_LOSS (R124): the losing bit, counted from the claim start bit. -/
  | arbitrationLoss (bit : Fin 7)
  /-- CLAIM_READBACK_FAULT (R123): the faulting bit, counted from the claim start bit. -/
  | claimReadbackFault (bit : Fin 7)
  /-- CLAIM_SEGMENT (R122, R140): the segment as read. -/
  | claimSegment (read : ClaimRead)
  /-- MESSAGE_READBACK_MISMATCH (R125): the first mismatching bit of the message segment. -/
  | messageReadbackMismatch (bit : Fin 160)
  /-- MESSAGE_SEGMENT (R140): the segment as read. -/
  | messageSegment (bytes : MessageBytes)
  /-- OWNED_BIT_MISMATCH (R145): the bit of the line cycle that mismatched. -/
  | ownedBitMismatch (bit : Fin 512)
  /-- READBACK_FAULT (R115): the mismatching bit at which the run count reaches 3. -/
  | readbackFault (bit : Fin 512)
  /-- VERDICT_POINT (R46): the two verdict copies as read. -/
  | verdictPoint (a b : VerdictCopy)
  /-- RETRY_LIMIT_REACHED (R128): the verdict point at which an entry reaches the retry limit. -/
  | retryLimitReached (a b : VerdictCopy)
  /-- JOIN_STALL (R91): the end of cycle at which the stall count reaches 128. -/
  | joinStall (finish : CycleEnd)
  /-- HOLD_OFF_EXPIRY (R129): the end of cycle at which a hold-off reaches 0. -/
  | holdOffExpiry (finish : CycleEnd)
  /-- COMMAND_BYTE_COMPLETE (R173): the command byte. -/
  | commandByteComplete (code : Byte)
  /-- PARAMETER_BYTE_COMPLETE (R173): the parameter byte. -/
  | parameterByteComplete (value : Byte)
  /-- REPLY_BYTE_COMPLETE (R173). -/
  | replyByteComplete
  deriving DecidableEq, Repr

end Sys2Proof
end

