-- ==== Sys2Proof/Decode.lean ====
section
/-! DEFINITION. The host port's command codes (Table 11-7), and the table decoder the host asks for.
No row of spec/opcode_table.json gives its command bits, so the table decoder spells none. -/

namespace Sys2Proof

/-- Table 11-7: the command a command byte stands for; none for the bytes of UNKNOWN. -/
def HostCommand.ofCode (code : Byte) : Option HostCommand :=
  match code.toNat with
  | 0x10 => some .configure
  | 0x11 => some .start
  | 0x12 => some .stop
  | 0x13 => some .join
  | 0x14 => some .leave
  | 0x20 => some .claim
  | 0x21 => some .renew
  | 0x22 => some .release
  | 0x23 => some .cancel
  | 0x24 => some .note
  | 0x25 => some .recall
  | 0x30 => some .veto
  | 0x31 => some .watch
  | 0x40 => some .readZone
  | 0x41 => some .readRoster
  | 0x42 => some .readStation
  | 0x50 => some .fetchEvent
  | 0x51 => some .ackEvent
  | 0x7E => some .reset
  | _ => none

/-- Table 11-7 read the other way: the command byte of a command. -/
def HostCommand.code (c : HostCommand) : Byte :=
  match c with
  | .configure => 0x10
  | .start => 0x11
  | .stop => 0x12
  | .join => 0x13
  | .leave => 0x14
  | .claim => 0x20
  | .renew => 0x21
  | .release => 0x22
  | .cancel => 0x23
  | .note => 0x24
  | .recall => 0x25
  | .veto => 0x30
  | .watch => 0x31
  | .readZone => 0x40
  | .readRoster => 0x41
  | .readStation => 0x42
  | .fetchEvent => 0x50
  | .ackEvent => 0x51
  | .reset => 0x7E

/-- The parameter bytes a NOTE carries in all, given its length byte (R179): tag, destination,
length, and the data bytes of a length in range. -/
def noteParams (length : Byte) : Nat :=
  if 1 ≤ length.toNat ∧ length.toNat ≤ Config.noteMax then 3 + length.toNat else 3

/-- The parameter bytes a command takes in all, given those received so far (Table 10-2, R179). -/
def HostCommand.paramCount (c : HostCommand) (received : List Byte) : Nat :=
  match c with
  | .configure => 5
  | .start => 0
  | .stop => 0
  | .join => 0
  | .leave => 0
  | .claim => 5
  | .renew => 3
  | .release => 2
  | .cancel => 2
  | .note => noteParams (received.getD 2 0)
  | .recall => 1
  | .veto => 2
  | .watch => 2
  | .readZone => 1
  | .readRoster => 0
  | .readStation => 0
  | .fetchEvent => 0
  | .ackEvent => 1
  | .reset => 0

/-- The command a table word spells: none, since the table gives no row bits. -/
def decodeTableWord (_nbits _w : Nat) : Option Instr :=
  none

end Sys2Proof
end

