-- ==== Sys2Proof/Machine/State.lean ====
section
/-! DEFINITION. The state of the station, block by block (Table 3-1 of the scope chapter), its value
after reset, and the reasons a step could stop. -/

namespace Sys2Proof.Machine

/-! ## Names the manual gives -/

/-- The local state of the station (R95, Table 5-1). -/
inductive StationState where
  | offline | standby | seeking | joining | synced | leaving | doubt | faulted
  deriving DecidableEq, Repr

/-- The state of a zone (R1). -/
inductive ZoneState where
  | free | exclusive | shared
  deriving DecidableEq, Repr

/-- The mode of a lease or of a waiter record (R2). -/
inductive LeaseMode where
  | exclusive | shared
  deriving DecidableEq, Repr

/-- The role of an address in the roster (R54). -/
inductive Role where
  | absent | member | joining | queued
  deriving DecidableEq, Repr

/-- The mode a status slot shows (R67, Table 11-2). -/
inductive SlotMode where
  | standby | seeking | joining | synced | doubt | unknown
  deriving DecidableEq, Repr

/-- The kind of a message (R29, Table 2-1). -/
inductive Kind where
  | found | joinReq | snap | leave | evict | release | cancel | claim | renew | note
  deriving DecidableEq, Repr

/-- The contention class of a message (R29, R122). -/
inductive MessageClass where
  | urgent | sync | normal
  deriving DecidableEq, Repr

/-- The reason a LEAVE carries (R33). -/
inductive LeaveReason where
  | voluntary | doubt
  deriving DecidableEq, Repr

/-- The reason an EVICT carries (R70). -/
inductive EvictReason where
  | silent | mismatch
  deriving DecidableEq, Repr

/-- The stance on the message of the cycle (R34, R53). -/
inductive Stance where
  | notTaken | accept | object | silent
  deriving DecidableEq, Repr

/-- The outcome of a host request (Table 8-5). -/
inductive RequestOutcome where
  | granted | queued | busy | already | renewed | released | cancelled | notHolder | notQueued
  | delivered | noDest | objected | failed | withdrawn | unknown
  deriving DecidableEq, Repr

/-- The reason of a STATE record (Table 5-4). -/
inductive StateReason where
  | command | formed | admitted | synchronised | left | evicted | dissolved | joinStall | rejoin
  | copyDisagree | damagedCommit | markFault | divergence | snapshotGap | readbackFault
  | addressInUse
  deriving DecidableEq, Repr

/-- The reply codes of the host port (Table 11-8). -/
inductive ReplyCode where
  | ok | state | range | full | duplicate | tagInUse | waitsFull | notFound | inflight | empty
  | mismatch | unknownCommand
  deriving DecidableEq, Repr

/-! ## The Zone Table -/

/-- A remaining lease time: a number of cycles, or UNLIMITED (R1, R6). -/
inductive Remaining where
  | cycles (n : Nat)
  | unlimited
  deriving DecidableEq, Repr

/-- A waiter record (R2); a duration of 0 stands for UNLIMITED. -/
structure Waiter where
  station  : Addr
  mode     : LeaseMode
  duration : Byte
  deriving DecidableEq, Repr

/-- A zone entry (R1, Table 1-1). -/
structure ZoneEntry where
  state      : ZoneState
  holders    : StationSet
  remaining  : Option Remaining
  generation : Byte
  queue      : List Waiter
  deriving DecidableEq, Repr

/-- The cleared value of a zone entry (R5). -/
def ZoneEntry.cleared : ZoneEntry :=
  { state := .free, holders := 0, remaining := none, generation := 0, queue := [] }

/-- The zone table: 64 entries (R1). -/
abbrev ZoneTable := Vector ZoneEntry 64

/-- The cleared value of the zone table (R5). -/
def ZoneTable.cleared : ZoneTable :=
  Vector.replicate 64 ZoneEntry.cleared

/-! ## The Roster -/

/-- The roster (R54, Table 3-1). -/
structure Roster where
  roles     : Vector Role 16
  joinQueue : List Addr
  progress  : Option Nat
  counter   : BitVec 16
  deriving DecidableEq, Repr

/-- The cleared value of the roster (R56). -/
def Roster.cleared : Roster :=
  { roles := Vector.replicate 16 .absent, joinQueue := [], progress := none, counter := 0 }

/-! ## The Status Monitor -/

/-- A peer watch record (R67, Table 3-4); a last mode of none is "not present". -/
structure PeerRecord where
  lastMode    : Option SlotMode
  lastCounter : BitVec 12
  silence     : Nat
  mismatch    : Nat
  refused     : Bool
  deriving DecidableEq, Repr

/-- The value of a peer watch record after a hardware reset, the RESET command or fault entry (R67). -/
def PeerRecord.cleared : PeerRecord :=
  { lastMode := none, lastCounter := 0, silence := 0, mismatch := 0, refused := false }

/-- The Status Monitor: the peer watch and the divergence count (R67), and the slot-derived set of
the cycle (R68). -/
structure Monitor where
  peers       : Vector PeerRecord 16
  divergence  : Nat
  slotDerived : StationSet
  deriving DecidableEq, Repr

/-- The reset value of the Status Monitor (R67). -/
def Monitor.cleared : Monitor :=
  { peers := Vector.replicate 16 PeerRecord.cleared, divergence := 0, slotDerived := 0 }

/-! ## The Snapshot Engine -/

/-- A snapshot block: its index and its 15 bytes of content (R76, R80, R81). -/
structure SnapBlock where
  index   : Nat
  content : List Byte
  deriving DecidableEq, Repr

/-- The Snapshot Engine (R76, Table 4-1). -/
structure Snapshot where
  sending : Option SnapBlock
  loaded  : Nat
  stall   : Nat
  deriving DecidableEq, Repr

/-- The reset value of the Snapshot Engine (R76). -/
def Snapshot.cleared : Snapshot :=
  { sending := none, loaded := 0, stall := 0 }

/-! ## The Transmit Selector -/

/-- The URGENT duty (R116, R117). -/
inductive UrgentDuty where
  | leave (reason : LeaveReason)
  | evict (target : Addr) (reason : EvictReason)
  deriving DecidableEq, Repr

/-- The SYNC duty (R116, R117). -/
inductive SyncDuty where
  | found
  | joinReq
  | snap (index : Nat)
  deriving DecidableEq, Repr

/-- The source of the message in flight (R116). -/
inductive Source where
  | urgent (duty : UrgentDuty)
  | sync (duty : SyncDuty)
  | entry (tag : Byte)
  deriving DecidableEq, Repr

/-- The claim state of the message in flight (R116). -/
inductive ClaimState where
  | contending | won
  deriving DecidableEq, Repr

/-- The message in flight (R116). The readback state is the first mismatching bit of the message
segment; none is "clean". -/
structure InFlight where
  source       : Source
  kind         : Kind
  cls          : MessageClass
  message      : MessageBytes
  claim        : ClaimState
  mismatchFrom : Option (Fin 160)
  deriving DecidableEq, Repr

/-- The Transmit Selector (R116, Table 6-1). -/
structure Selector where
  urgent   : Option UrgentDuty
  sync     : Option SyncDuty
  seekHold : Nat
  snapHold : Nat
  served   : Bool
  inFlight : Option InFlight
  deriving DecidableEq, Repr

/-- The reset value of the Transmit Selector (R116). -/
def Selector.cleared : Selector :=
  { urgent := none, sync := none, seekHold := 0, snapHold := 0, served := false, inFlight := none }

/-! ## The Verdict Unit -/

/-- The empty value of a verdict copy (R53). -/
def emptyCopy : VerdictCopy :=
  { accept := 0, object := 0 }

/-- What the Verdict Unit holds of the claim segment (R122, R140): idle, or the winner's class and
address as read. -/
inductive ClaimHeld where
  | idle
  | winner (cls : BitVec 2) (addr : Addr)
  deriving DecidableEq, Repr

/-- The Verdict Unit (R53), with the claim segment it holds for the cycle (R122). -/
structure VerdictUnit where
  stance : Stance
  copyA  : VerdictCopy
  copyB  : VerdictCopy
  claim  : Option ClaimHeld
  deriving DecidableEq, Repr

/-- The value of the Verdict Unit at each cycle mark and after a hardware reset or the RESET command
(R53). -/
def VerdictUnit.cleared : VerdictUnit :=
  { stance := .notTaken, copyA := emptyCopy, copyB := emptyCopy, claim := none }

/-- R53: the Verdict Unit on leaving the cluster and at fault entry: stance and copies cleared. The claim
segment as read stays for the intact test of the cycle, which every state makes (R32). -/
def VerdictUnit.drop (v : VerdictUnit) : VerdictUnit :=
  { VerdictUnit.cleared with claim := v.claim }

/-! ## The Station Controller -/

/-- The configuration record (R96, Table 5-2). -/
structure ConfigRecord where
  address       : Option Addr
  silenceLimit  : Nat
  formationWait : Nat
  retryLimit    : Nat
  rejoin        : Bool
  deriving DecidableEq, Repr

/-- The defaults of the configuration record (Table 5-2). -/
def ConfigRecord.defaults : ConfigRecord :=
  { address := none, silenceLimit := 6, formationWait := 32, retryLimit := 4, rejoin := false }

/-- The Station Controller (R95, Table 5-1). -/
structure Controller where
  station      : StationState
  configured   : Bool
  config       : ConfigRecord
  listen       : Nat
  formation    : Nat
  lastEviction : Option EvictReason
  deriving DecidableEq, Repr

/-- The hardware-reset value of the Station Controller (Table 5-1). -/
def Controller.cleared : Controller :=
  { station := .offline, configured := false, config := ConfigRecord.defaults, listen := 0,
    formation := 0, lastEviction := none }

/-! ## The Send Queue -/

/-- A host request as the host gave it (R147). The wait flag is the host's byte: 0 is clear, any
other value set (R179). The length of a NOTE is the number of its data bytes. -/
inductive Request where
  | claim (zone : ZoneId) (mode : LeaseMode) (wait : Byte) (duration : Byte)
  | renew (zone : ZoneId) (duration : Byte)
  | release (zone : ZoneId)
  | cancel (zone : ZoneId)
  | note (destination : Byte) (data : List Byte)
  deriving DecidableEq, Repr

/-- The entry state (R147). -/
inductive EntryState where
  | waiting | inFlight
  deriving DecidableEq, Repr

/-- A send queue entry (R147, Table 8-1); its kind and class are those of its request. -/
structure SendEntry where
  tag      : Byte
  request  : Request
  attempts : Nat
  state    : EntryState
  deriving DecidableEq, Repr

/-- A record of the own waits list (R155). -/
structure OwnWait where
  zone : ZoneId
  tag  : Byte
  mode : LeaseMode
  deriving DecidableEq, Repr

/-- The Send Queue: its entries, oldest first, and the own waits list (R147, R155). -/
structure SendQueue where
  entries  : List SendEntry
  ownWaits : List OwnWait
  deriving DecidableEq, Repr

/-- The reset value of the Send Queue (Table 8-2). -/
def SendQueue.cleared : SendQueue :=
  { entries := [], ownWaits := [] }

/-! ## The Event Queue -/

/-- A RESULT record (R151). -/
structure ResultRecord where
  tag      : Byte
  kind     : Kind
  outcome  : RequestOutcome
  zone     : Option ZoneId
  position : Option Nat
  set      : Option StationSet
  commit   : Option (BitVec 16)
  deriving DecidableEq, Repr

/-- An event record without its sequence number (R161, Table 9-2). -/
inductive EventRecord where
  | result (record : ResultRecord)
  | grant (zone : ZoneId) (mode : LeaseMode) (tag generation : Byte)
  | expire (zone : ZoneId) (generation : Byte)
  | zone (zone : ZoneId) (state : ZoneState) (holders : StationSet) (queueLength : Nat)
      (generation : Byte) (commit : BitVec 16)
  | note (source : Addr) (data : List Byte)
  | state (old new : StationState) (reason : StateReason) (held : Nat)
  | overflow (lost : Nat)
  deriving DecidableEq, Repr

/-- A record of the event queue with its sequence number (R162). -/
structure QueuedRecord where
  sequence : Byte
  record   : EventRecord
  deriving DecidableEq, Repr

/-- The Event Queue (R160, Table 9-1). -/
structure EventQueue where
  records      : List QueuedRecord
  nextSequence : Byte
  fetched      : Nat
  deriving DecidableEq, Repr

/-- The reset value of the Event Queue (Table 9-1). -/
def EventQueue.cleared : EventQueue :=
  { records := [], nextSequence := 0, fetched := 0 }

/-! ## The Host Port -/

/-- The phase of the transaction (R172). -/
inductive PortPhase where
  | idle | command | parameters | reply | drained
  deriving DecidableEq, Repr

/-- The port status byte, field by field (R175). -/
structure StatusByte where
  station      : StationState
  eventPending : Bool
  queueFull    : Bool
  queueEmpty   : Bool
  certain      : Bool
  configured   : Bool
  deriving DecidableEq, Repr

/-- The command of a transaction (R172): one of Table 10-2, or UNKNOWN. -/
inductive PortCommand where
  | known (c : HostCommand)
  | unknown
  deriving DecidableEq, Repr

/-- The reply of a taken command (R176). -/
structure Reply where
  code : ReplyCode
  data : List Byte
  deriving DecidableEq, Repr

/-- The Host Port: the transaction record (R172, Table 10-1) and the levels of its input pins CS#
and RST# (R172, R192). -/
structure Port where
  phase         : PortPhase
  status        : Option StatusByte
  command       : Option PortCommand
  parameters    : List Byte
  reply         : Option Reply
  replyPosition : Nat
  csLow         : Bool
  rstLow        : Bool
  deriving DecidableEq, Repr

/-- The reset value of the Host Port, CS# and RST# high (R172). -/
def Port.cleared : Port :=
  { phase := .idle, status := none, command := none, parameters := [], reply := none,
    replyPosition := 0, csLow := false, rstLow := false }

/-! ## The Policy Table -/

/-- The Policy Table (R181). -/
structure Policy where
  veto  : ZoneFlags
  watch : ZoneFlags
  deriving DecidableEq, Repr

/-- The reset value of the Policy Table (R181). -/
def Policy.cleared : Policy :=
  { veto := 0, watch := 0 }

/-! ## The Line Interface -/

/-- The cycle position (R133); a stretch is 1 to 15. Beside the positions of Table 7-1 stands `due`, the bit
time that follows bit 511, "bit 512" of R136 and R142, in which the mark is expected: the mark bit belongs to
no cycle position, so the table does not name it. -/
inductive CyclePosition where
  | waiting
  | bit (n : Fin 512)
  | due
  | stretch (n : Nat)
  deriving DecidableEq, Repr

/-- The latest point of the line cycle that has been made. It is the part of the cycle position that
says whether the work of a point at the present bit is done. -/
inductive CyclePoint where
  | mark | status | selection | claim | message | verdict
  deriving DecidableEq, Repr

/-- The status slot being driven in the cycle: the address, mode and counter that stood at the mark (R138). -/
structure SlotDrive where
  address : Addr
  mode    : SlotMode
  counter : BitVec 12
  deriving DecidableEq, Repr

/-- The six line counters (R146, Table 7-4). -/
structure LineCounters where
  commitsSeen        : Nat
  crcErrors          : Nat
  arbitrationLosses  : Nat
  copyDisagreements  : Nat
  markFaults         : Nat
  readbackMismatches : Nat
  deriving DecidableEq, Repr

/-- The reset value of the line counters (R146). -/
def LineCounters.cleared : LineCounters :=
  { commitsSeen := 0, crcErrors := 0, arbitrationLosses := 0, copyDisagreements := 0,
    markFaults := 0, readbackMismatches := 0 }

/-- The Line Interface (R133, Table 7-1), with what it drives and has found in the cycle in progress:
the slot driven (R138), whether an owned bit has mismatched (R145), whether its slot was read clean while
it is not yet settled if a stance follows, so that the run count is not yet set (R145), and the bits of the cycle
as read, from bit 0 on to the last one of which a row has told how it was read (R134). -/
structure Line where
  position        : CyclePosition
  point           : CyclePoint
  claimActive     : Bool
  prevClaimActive : Bool
  receive         : Option MessageBytes
  intact          : Option Bool
  runCount        : Nat
  counters        : LineCounters
  slotDrive       : Option SlotDrive
  mismatchSeen    : Bool
  cleanPending    : Bool
  heard           : List Bool
  deriving DecidableEq, Repr

/-- The reset value of the Line Interface (R133). -/
def Line.cleared : Line :=
  { position := .waiting, point := .mark, claimActive := false, prevClaimActive := false,
    receive := none, intact := none, runCount := 0, counters := LineCounters.cleared,
    slotDrive := none, mismatchSeen := false, cleanPending := false, heard := [] }

/-! ## The station -/

/-- The state of the station: its twelve blocks, and the commands that are waiting, first in, first
out. -/
structure State where
  controller : Controller
  policy     : Policy
  sendQueue  : SendQueue
  events     : EventQueue
  zones      : ZoneTable
  roster     : Roster
  monitor    : Monitor
  snapshot   : Snapshot
  selector   : Selector
  verdict    : VerdictUnit
  line       : Line
  port       : Port
  pending    : List Instr
  deriving DecidableEq, Repr

/-- The station after a hardware reset, RST# released and CS# high, with no command waiting (R192). -/
def State.reset : State :=
  { controller := Controller.cleared
    policy := Policy.cleared
    sendQueue := SendQueue.cleared
    events := EventQueue.cleared
    zones := ZoneTable.cleared
    roster := Roster.cleared
    monitor := Monitor.cleared
    snapshot := Snapshot.cleared
    selector := Selector.cleared
    verdict := VerdictUnit.cleared
    line := Line.cleared
    port := Port.cleared
    pending := [] }

/-- The faults of the model: there are none. The manual gives every command and event an effect, so
nothing raises a fault (the station's own FAULTED is a local state, `StationState.faulted`). Safe: a
type with no value cannot stop a run. -/
inductive Fault where
  deriving DecidableEq, Repr

/-- The refusals of the model. -/
inductive Refusal where
  /-- Raised by an arm of `exec` for a command that has no meaning yet. Safe: the run stops. No arm
  raises it. -/
  | notModelled (mnemonic : String)
  deriving DecidableEq, Repr

/-! ## One update per block -/

def State.setController (s : State) (v : Controller) : State := { s with controller := v }
def State.setPolicy (s : State) (v : Policy) : State := { s with policy := v }
def State.setSendQueue (s : State) (v : SendQueue) : State := { s with sendQueue := v }
def State.setEvents (s : State) (v : EventQueue) : State := { s with events := v }
def State.setZones (s : State) (v : ZoneTable) : State := { s with zones := v }
def State.setRoster (s : State) (v : Roster) : State := { s with roster := v }
def State.setMonitor (s : State) (v : Monitor) : State := { s with monitor := v }
def State.setSnapshot (s : State) (v : Snapshot) : State := { s with snapshot := v }
def State.setSelector (s : State) (v : Selector) : State := { s with selector := v }
def State.setVerdict (s : State) (v : VerdictUnit) : State := { s with verdict := v }
def State.setLine (s : State) (v : Line) : State := { s with line := v }
def State.setPort (s : State) (v : Port) : State := { s with port := v }
def State.setPending (s : State) (v : List Instr) : State := { s with pending := v }

end Sys2Proof.Machine
end

