-- ==== Sys2Proof/Machine/Tables.lean ====
section
/-! DEFINITION. Tables of a fixed size, station sets and saturating counts: the plain helpers the
rules are written with. -/

namespace Sys2Proof.Machine

/-- The table whose entry at each index is given by a function of the index. -/
def tabulate {α : Type} (n : Nat) (f : Fin n → α) : Vector α n :=
  ⟨⟨(List.finRange n).map f⟩, by simp⟩

/-- The table with one entry replaced. -/
def put {α : Type} {n : Nat} (v : Vector α n) (i : Fin n) (x : α) : Vector α n :=
  v.set i.val x i.isLt

/-- The first n bytes of a list, 0 beyond its end. -/
def vectorOf (n : Nat) (l : List Byte) : Vector Byte n :=
  tabulate n (fun i => l.getD i.val 0)

/-- The set holding one address. -/
def single (a : Addr) : StationSet :=
  1#16 <<< a.val

/-- The set holding an address, or nothing. -/
def singleOpt (a : Option Addr) : StationSet :=
  match a with
  | some a => single a
  | none => 0

/-- Whether a set holds an address. -/
def mem (set : StationSet) (a : Addr) : Bool :=
  set.getLsbD a.val

/-- A set with an address added. -/
def insert (set : StationSet) (a : Addr) : StationSet :=
  set ||| single a

/-- A set with an address taken out. -/
def erase (set : StationSet) (a : Addr) : StationSet :=
  set &&& ~~~ (single a)

/-- Whether every address of the first set is in the second. -/
def subset (a b : StationSet) : Bool :=
  a &&& ~~~ b == 0#16

/-- The addresses of the first set that are not in the second. -/
def without (a b : StationSet) : StationSet :=
  a &&& ~~~ b

/-- All addresses, ascending. -/
def allAddrs : List Addr :=
  List.finRange 16

/-- All zones, ascending (R16, R21). -/
def allZones : List ZoneId :=
  List.finRange 64

/-- The set of the addresses with a property. -/
def setOf (p : Addr → Bool) : StationSet :=
  allAddrs.foldl (fun set a => if p a then insert set a else set) 0

/-- The lowest address with a property. -/
def lowest (p : Addr → Bool) : Option Addr :=
  allAddrs.find? p

/-- The number of addresses with a property. -/
def countAddrs (p : Addr → Bool) : Nat :=
  allAddrs.countP p

/-- A saturating count: one more, stopping at the maximum (conventions, 7.5). -/
def saturate (max n : Nat) : Nat :=
  min (n + 1) max

/-- Zone z's flag in a flag set (R181). -/
def zoneFlag (flags : ZoneFlags) (z : ZoneId) : Bool :=
  flags.getLsbD z.val

/-- A flag set with zone z's flag written (R182, R183). -/
def setZoneFlag (flags : ZoneFlags) (z : ZoneId) (value : Bool) : ZoneFlags :=
  if value then flags ||| (1#64 <<< z.val) else flags &&& ~~~ (1#64 <<< z.val)

/-- The zone a zone byte names: 64 or more names none (R33, R189). -/
def zoneOf (b : Byte) : Option ZoneId :=
  if h : b.toNat < 64 then some ⟨b.toNat, h⟩ else none

/-- The address a byte names: 16 or more names none (R178). -/
def addrOf (b : Byte) : Option Addr :=
  if h : b.toNat < 16 then some ⟨b.toNat, h⟩ else none

/-- The low four bits of a byte as an address (Tables 11-4 to 11-6). -/
def lowNibble (b : Byte) : Addr :=
  ⟨b.toNat % 16, Nat.mod_lt _ (by decide)⟩

/-- The high four bits of a byte as an address. -/
def highNibble (b : Byte) : Addr :=
  ⟨b.toNat / 16, by have := b.isLt; omega⟩

/-- A byte with its two halves given as numbers. -/
def nibbles (high low : Nat) : Byte :=
  BitVec.ofNat 8 (high * 16 + low)

/-- A 16-bit value as two bytes, most significant first (conventions, 7.4). -/
def bytes16 (w : BitVec 16) : List Byte :=
  [w.extractLsb' 8 8, w.extractLsb' 0 8]

/-- Two bytes, most significant first, as a 16-bit value. -/
def word16 (high low : Byte) : BitVec 16 :=
  high ++ low

/-- A 64-bit value as eight bytes, most significant first. -/
def bytes64 (w : BitVec 64) : List Byte :=
  [w.extractLsb' 56 8, w.extractLsb' 48 8, w.extractLsb' 40 8, w.extractLsb' 32 8,
   w.extractLsb' 24 8, w.extractLsb' 16 8, w.extractLsb' 8 8, w.extractLsb' 0 8]

/-- A flag as a byte, 0 or 1 (Table 11-10). -/
def flagByte (b : Bool) : Byte :=
  if b then 1 else 0

/-- A number as a byte. -/
def natByte (n : Nat) : Byte :=
  BitVec.ofNat 8 n

end Sys2Proof.Machine
end

