-- ==== Sys2Proof/Machine/RosterRules.lean ====
section
/-! DEFINITION. What a committed membership message does to the roster (Chapter 3), and the sets the
roster supplies. Nothing here reads the station. -/

namespace Sys2Proof.Machine

/-- The role of an address. -/
def Roster.role (r : Roster) (a : Addr) : Role :=
  r.roles.get a

/-- The roster with one role replaced. -/
def Roster.setRole (r : Roster) (a : Addr) (role : Role) : Roster :=
  { r with roles := put r.roles a role }

/-- The address whose role is JOINING, if any (R54). -/
def Roster.joiner (r : Roster) : Option Addr :=
  lowest (fun a => r.role a == .joining)

/-- R66: the donor, the lowest address whose role is MEMBER. -/
def Roster.donor (r : Roster) : Option Addr :=
  lowest (fun a => r.role a == .member)

/-- R44, R66: the base set, the MEMBERs and the JOINING address. -/
def Roster.baseSet (r : Roster) : StationSet :=
  setOf (fun a => r.role a == .member || r.role a == .joining)

/-- R57: the counter advance of a commit. -/
def Roster.advance (r : Roster) : Roster :=
  { r with counter := r.counter + 1 }

/-- R61, R62: the head of the join queue, if any, becomes JOINING with progress 0; with an empty
queue progress is undefined. -/
def Roster.promote (r : Roster) : Roster :=
  match r.joinQueue with
  | [] => { r with progress := none }
  | head :: rest => { r.setRole head .joining with joinQueue := rest, progress := some 0 }

/-- R60: a committed JOIN_REQ from s. -/
def Roster.applyJoinReq (r : Roster) (s : Addr) : Roster :=
  if r.role s ≠ .absent ∨ r.donor = none then r
  else
    match r.joiner with
    | none => { r.setRole s .joining with progress := some 0 }
    | some _ => { r.setRole s .queued with joinQueue := r.joinQueue ++ [s] }

/-- R61: a committed SNAP of the index given. -/
def Roster.applySnap (r : Roster) (index : Nat) : Roster :=
  match r.joiner, r.progress with
  | some j, some p =>
    if index = p then
      if p + 1 = Config.blockCount then (r.setRole j .member).promote
      else { r with progress := some (p + 1) }
    else r
  | _, _ => r

/-- R64: the dissolution, every JOINING and QUEUED address ABSENT, queue and progress empty. -/
def Roster.dissolve (r : Roster) : Roster :=
  { r with
    roles := tabulate 16 (fun a =>
      match r.role a with
      | .absent => .absent
      | .member => .member
      | .joining => .absent
      | .queued => .absent)
    joinQueue := []
    progress := none }

/-- R62 steps 2 to 4 by the role the removed address had. -/
def Roster.removeRole (r : Roster) (t : Addr) (role : Role) : Roster :=
  match role with
  | .absent => r
  | .joining => (r.setRole t .absent).promote
  | .queued => { r.setRole t .absent with joinQueue := r.joinQueue.filter (fun a => a != t) }
  | .member =>
    if (r.setRole t .absent).donor = none then (r.setRole t .absent).dissolve
    else r.setRole t .absent

/-- R62, R63: a committed LEAVE from t, or EVICT naming t; with t ABSENT the roster is unchanged. -/
def Roster.remove (r : Roster) (t : Addr) : Roster :=
  r.removeRole t (r.role t)

/-- The roster of a station whose own FOUND commits (R59): the counter advances, and the sender is
the only MEMBER. -/
def Roster.found (r : Roster) (s : Addr) : Roster :=
  r.advance.setRole s .member

/-! ## The form of a roster -/

/-- R54: at most one address is JOINING. -/
def Roster.oneJoiner (r : Roster) : Bool :=
  countAddrs (fun a => r.role a == .joining) ≤ 1

/-- R54: the join queue lists each QUEUED address once and no other address. -/
def Roster.queueFits (r : Roster) : Bool :=
  r.joinQueue.Nodup
    && allAddrs.all (fun a => (r.joinQueue.contains a) == (r.role a == .queued))

/-- R54: progress is defined exactly when an address is JOINING, and is then 0 to 64; the join queue
is empty when no address is JOINING. -/
def Roster.progressFits (r : Roster) : Bool :=
  match r.joiner, r.progress with
  | some _, some p => p ≤ Config.lastBlock
  | none, none => r.joinQueue == []
  | _, _ => false

/-- R54: the form a roster has. -/
def Roster.wf (r : Roster) : Bool :=
  r.oneJoiner && r.queueFits && r.progressFits

end Sys2Proof.Machine
end

