-- ==== Sys2Proof/Machine/ZoneRules.lean ====
section
/-! DEFINITION. What one application does to one zone entry (Chapter 1): claims, renewals, releases,
cancels, removals, grants, shared admission and expiry. Nothing here reads the station. -/

namespace Sys2Proof.Machine

/-- What an application makes of one zone entry: the entry after it, the stations that entered the
holder set from the wait queue (R20), and the stations whose lease expired (R22). -/
structure ZoneChange where
  entry   : ZoneEntry
  granted : StationSet
  expired : StationSet
  deriving DecidableEq, Repr

/-- An application that leaves the entry as it is. -/
def unchangedZone (e : ZoneEntry) : ZoneChange :=
  { entry := e, granted := 0, expired := 0 }

/-- An application that only replaces the entry. -/
def changedZone (e : ZoneEntry) : ZoneChange :=
  { entry := e, granted := 0, expired := 0 }

/-- The zone outcome of a committed message (R11, Table 1-4). -/
structure ZoneOutcome where
  outcome  : RequestOutcome
  position : Option Nat
  set      : Option StationSet
  deriving DecidableEq, Repr

/-- An outcome with no field beside the zone. -/
def plainOutcome (o : RequestOutcome) : ZoneOutcome :=
  { outcome := o, position := none, set := none }

/-- R6: the remaining time a duration stands for. -/
def durationValue (d : Byte) : Remaining :=
  if d = 0 then .unlimited else .cycles (d.toNat * Config.cyclesPerTick)

/-- R6: the larger of two remaining values. -/
def larger (a b : Remaining) : Remaining :=
  match a, b with
  | .cycles m, .cycles n => .cycles (max m n)
  | .unlimited, _ => .unlimited
  | _, .unlimited => .unlimited

/-- The larger of a zone's remaining value and another; a zone with none takes the other. -/
def raise (present : Option Remaining) (value : Remaining) : Option Remaining :=
  match present with
  | some r => some (larger r value)
  | none => some value

/-- The state a lease mode gives a zone. -/
def stateOfMode (m : LeaseMode) : ZoneState :=
  match m with
  | .exclusive => .exclusive
  | .shared => .shared

/-- The mode a held zone's state stands for. -/
def modeOfState (z : ZoneState) : LeaseMode :=
  match z with
  | .free => .exclusive
  | .exclusive => .exclusive
  | .shared => .shared

/-- Whether a station has a waiter record in a queue. -/
def waits (queue : List Waiter) (a : Addr) : Bool :=
  queue.any (fun w => w.station == a)

/-- A wait queue with a station's record taken out; the records behind close up (R2). -/
def dropWaiter (queue : List Waiter) (a : Addr) : List Waiter :=
  queue.filter (fun w => w.station != a)

/-- Whether a waiter record is SHARED. -/
def isShared (w : Waiter) : Bool :=
  w.mode == .shared

/-- The stations of a run of records. -/
def runStations (run : List Waiter) : StationSet :=
  run.foldl (fun set w => insert set w.station) 0

/-- The largest of a value and the values a run's durations give (R15, R19). -/
def runRemaining (start : Remaining) (run : List Waiter) : Remaining :=
  run.foldl (fun r w => larger r (durationValue w.duration)) start

/-- A FREE entry with the generation of the lease that last ended there (R3). -/
def freeZone (generation : Byte) : ZoneEntry :=
  { state := .free, holders := 0, remaining := none, generation := generation, queue := [] }

/-- R18, R19: the grant that takes place when a zone becomes FREE with the wait queue given; with an
empty queue the zone stays FREE. -/
def grantFromQueue (generation : Byte) (queue : List Waiter) : ZoneChange :=
  match queue with
  | [] => changedZone (freeZone generation)
  | head :: rest =>
    match head.mode with
    | .exclusive =>
      { entry :=
          { state := .exclusive, holders := single head.station
            remaining := some (durationValue head.duration)
            generation := generation + 1, queue := rest }
        granted := single head.station, expired := 0 }
    | .shared =>
      let run := head :: rest.takeWhile isShared
      { entry :=
          { state := .shared, holders := runStations run
            remaining := some (runRemaining (durationValue head.duration) run)
            generation := generation + 1, queue := rest.dropWhile isShared }
        granted := runStations run, expired := 0 }

/-- R15: shared admission, tried on a zone whose queue a waiter has left. -/
def sharedAdmission (e : ZoneEntry) : ZoneChange :=
  if e.state = .shared then
    let run := e.queue.takeWhile isShared
    match run, e.remaining with
    | [], _ => unchangedZone e
    | _ :: _, some r =>
      { entry :=
          { e with
            holders := e.holders ||| runStations run
            remaining := some (runRemaining r run)
            queue := e.queue.dropWhile isShared }
        granted := runStations run, expired := 0 }
    | _ :: _, none => unchangedZone e
  else unchangedZone e

/-- R7 to R10: a committed CLAIM of the zone by s, mode m, duration d, wait flag w. -/
def claimZone (e : ZoneEntry) (s : Addr) (m : LeaseMode) (d : Byte) (w : Bool) : ZoneChange :=
  if mem e.holders s || waits e.queue s then unchangedZone e
  else if e.state = .free then
    changedZone
      { state := stateOfMode m, holders := single s, remaining := some (durationValue d)
        generation := e.generation + 1, queue := e.queue }
  else if e.state = .shared ∧ m = .shared ∧ e.queue = [] then
    changedZone
      { e with holders := insert e.holders s, remaining := raise e.remaining (durationValue d) }
  else if w ∧ e.queue.length < Config.waitQueueCapacity then
    changedZone { e with queue := e.queue ++ [{ station := s, mode := m, duration := d }] }
  else unchangedZone e

/-- The outcome of that CLAIM (R7 to R10, Table 1-4). -/
def claimOutcome (e : ZoneEntry) (s : Addr) (m : LeaseMode) (w : Bool) : ZoneOutcome :=
  if mem e.holders s || waits e.queue s then plainOutcome .already
  else if e.state = .free then plainOutcome .granted
  else if e.state = .shared ∧ m = .shared ∧ e.queue = [] then plainOutcome .granted
  else if w ∧ e.queue.length < Config.waitQueueCapacity then
    { outcome := .queued, position := some (e.queue.length + 1), set := none }
  else { outcome := .busy, position := none, set := some e.holders }

/-- R12: a committed RENEW of the zone by s for duration d. -/
def renewZone (e : ZoneEntry) (s : Addr) (d : Byte) : ZoneChange :=
  if mem e.holders s then changedZone { e with remaining := raise e.remaining (durationValue d) }
  else unchangedZone e

/-- R12: its outcome. -/
def renewOutcome (e : ZoneEntry) (s : Addr) : ZoneOutcome :=
  if mem e.holders s then plainOutcome .renewed else plainOutcome .notHolder

/-- A holder taken out of a zone (R13, R16): a zone left with no holder becomes FREE and is granted
from its queue. -/
def removeHolder (e : ZoneEntry) (s : Addr) : ZoneChange :=
  if erase e.holders s = 0 then grantFromQueue e.generation e.queue
  else changedZone { e with holders := erase e.holders s }

/-- R13: a committed RELEASE of the zone by s. -/
def releaseZone (e : ZoneEntry) (s : Addr) : ZoneChange :=
  if mem e.holders s then removeHolder e s else unchangedZone e

/-- R13: its outcome. -/
def releaseOutcome (e : ZoneEntry) (s : Addr) : ZoneOutcome :=
  if mem e.holders s then plainOutcome .released else plainOutcome .notHolder

/-- R14: a committed CANCEL of the zone by s. -/
def cancelZone (e : ZoneEntry) (s : Addr) : ZoneChange :=
  if waits e.queue s then sharedAdmission { e with queue := dropWaiter e.queue s }
  else unchangedZone e

/-- R14: its outcome. -/
def cancelOutcome (e : ZoneEntry) (s : Addr) : ZoneOutcome :=
  if waits e.queue s then plainOutcome .cancelled else plainOutcome .notQueued

/-- R16: the removal of station t from the zone, step 1 and then step 2. -/
def removeFromZone (e : ZoneEntry) (t : Addr) : ZoneChange :=
  let first := if mem e.holders t then removeHolder e t else unchangedZone e
  if waits first.entry.queue t then
    let second :=
      sharedAdmission { first.entry with queue := dropWaiter first.entry.queue t }
    { entry := second.entry, granted := first.granted ||| second.granted, expired := 0 }
  else first

/-- R21, R22: the expiry pass over the zone. -/
def expireZone (e : ZoneEntry) : ZoneChange :=
  match e.state, e.remaining with
  | .free, _ => unchangedZone e
  | _, some (.cycles n) =>
    if n ≤ 1 then { grantFromQueue e.generation e.queue with expired := e.holders }
    else changedZone { e with remaining := some (.cycles (n - 1)) }
  | _, _ => unchangedZone e

/-- Whether the pass makes the zone's lease run out (R22). -/
def leaseRunsOut (e : ZoneEntry) : Bool :=
  match e.state, e.remaining with
  | .free, _ => false
  | _, some (.cycles n) => n ≤ 1
  | _, _ => false

/-- R26: whether a change is one a ZONE record reports. -/
def zoneDiffers (before after : ZoneEntry) : Bool :=
  !(before.state == after.state && before.holders == after.holders
    && before.queue == after.queue && before.generation == after.generation)

/-! ## The form of an entry -/

/-- R1, R2: the stations of a zone's holders and waiters, each once. -/
def stationsOnce (e : ZoneEntry) : Bool :=
  (e.queue.map Waiter.station).Nodup && e.queue.all (fun w => !mem e.holders w.station)

/-- R1: a finite remaining value is 1 to 16320. -/
def remainingInRange (r : Option Remaining) : Bool :=
  match r with
  | some (.cycles n) => 1 ≤ n && n ≤ 16320
  | some .unlimited => true
  | none => false

/-- R1: what each zone state requires of the holders, the remaining time and the queue. -/
def stateFits (e : ZoneEntry) : Bool :=
  match e.state with
  | .free => e.holders == 0 && e.remaining == none && e.queue == []
  | .exclusive => countAddrs (mem e.holders) == 1 && remainingInRange e.remaining
  | .shared => e.holders != 0 && remainingInRange e.remaining

/-- R1, R2: the form every entry of a replica has. -/
def ZoneEntry.wf (e : ZoneEntry) : Bool :=
  stateFits e && stationsOnce e && e.queue.length ≤ Config.waitQueueCapacity

end Sys2Proof.Machine
end

