-- ==== Sys2Proof/Machine/Formats.lean ====
section
/-! DEFINITION. Every bit and byte layout (Chapter 11): codes, the CRC, messages, snapshot blocks and
event records. -/

namespace Sys2Proof.Machine

/-! ## Codes -/

/-- Table 11-9: the code of a local state. -/
def StationState.code (s : StationState) : Nat :=
  match s with
  | .offline => 0 | .standby => 1 | .seeking => 2 | .joining => 3
  | .synced => 4 | .leaving => 5 | .doubt => 6 | .faulted => 7

/-- R190: the code of a zone state. -/
def ZoneState.code (z : ZoneState) : Nat :=
  match z with
  | .free => 0 | .exclusive => 1 | .shared => 2

/-- Table 11-4: the code of a lease mode. -/
def LeaseMode.code (m : LeaseMode) : Nat :=
  match m with
  | .exclusive => 1 | .shared => 2

/-- Table 11-4 read back: any other code stands for no mode. -/
def LeaseMode.ofCode (n : Nat) : Option LeaseMode :=
  match n with
  | 1 => some .exclusive
  | 2 => some .shared
  | _ => none

/-- Table 11-5: the code of a role. -/
def Role.code (r : Role) : Nat :=
  match r with
  | .absent => 0 | .member => 1 | .joining => 2 | .queued => 3

/-- Table 11-5 read back. -/
def Role.ofCode (n : Nat) : Role :=
  match n with
  | 0 => .absent
  | 1 => .member
  | 2 => .joining
  | _ => .queued

/-- Table 11-3: the code of a message kind. -/
def Kind.code (k : Kind) : Nat :=
  match k with
  | .found => 1 | .joinReq => 2 | .snap => 3 | .leave => 4 | .evict => 5
  | .release => 6 | .cancel => 7 | .claim => 8 | .renew => 9 | .note => 10

/-- Table 11-3 read back: the other six codes stand for no kind. -/
def Kind.ofCode (n : Nat) : Option Kind :=
  match n with
  | 1 => some .found
  | 2 => some .joinReq
  | 3 => some .snap
  | 4 => some .leave
  | 5 => some .evict
  | 6 => some .release
  | 7 => some .cancel
  | 8 => some .claim
  | 9 => some .renew
  | 10 => some .note
  | _ => none

/-- Table 2-1: the class a kind fixes. -/
def Kind.cls (k : Kind) : MessageClass :=
  match k with
  | .found => .sync | .joinReq => .sync | .snap => .sync
  | .leave => .urgent | .evict => .urgent | .release => .urgent | .cancel => .urgent
  | .claim => .normal | .renew => .normal | .note => .normal

/-- Table 11-1: the code of a class, URGENT lowest. -/
def MessageClass.code (c : MessageClass) : BitVec 2 :=
  match c with
  | .urgent => 0 | .sync => 1 | .normal => 2

/-- Table 11-4: the code of a LEAVE reason. -/
def LeaveReason.code (r : LeaveReason) : Nat :=
  match r with
  | .voluntary => 1 | .doubt => 2

/-- Table 11-4: the code of an EVICT reason. -/
def EvictReason.code (r : EvictReason) : Nat :=
  match r with
  | .silent => 1 | .mismatch => 2

/-- Table 11-4 read back: any other code is out of range. -/
def EvictReason.ofCode (n : Nat) : Option EvictReason :=
  match n with
  | 1 => some .silent
  | 2 => some .mismatch
  | _ => none

/-- Table 11-2: the code a station drives for a slot mode. A station drives no UNKNOWN mode; the value
given for it is the READ_STATION code of R190. -/
def SlotMode.code (m : SlotMode) : Nat :=
  match m with
  | .standby => 1 | .seeking => 2 | .joining => 3 | .synced => 4 | .doubt => 6 | .unknown => 8

/-- Table 11-2 read back: 000, 101 and 111 are read as UNKNOWN. -/
def SlotMode.ofCode (n : Nat) : SlotMode :=
  match n with
  | 1 => .standby
  | 2 => .seeking
  | 3 => .joining
  | 4 => .synced
  | 6 => .doubt
  | _ => .unknown

/-- Table 11-12: the code of an outcome. -/
def RequestOutcome.code (o : RequestOutcome) : Nat :=
  match o with
  | .granted => 1 | .queued => 2 | .busy => 3 | .already => 4 | .renewed => 5 | .released => 6
  | .cancelled => 7 | .notHolder => 8 | .notQueued => 9 | .delivered => 10 | .noDest => 11
  | .objected => 12 | .failed => 13 | .withdrawn => 14 | .unknown => 15

/-- Table 11-12: the code of a STATE reason. -/
def StateReason.code (r : StateReason) : Nat :=
  match r with
  | .command => 1 | .formed => 2 | .admitted => 3 | .synchronised => 4 | .left => 5
  | .evicted => 6 | .dissolved => 7 | .joinStall => 8 | .rejoin => 9 | .copyDisagree => 10
  | .damagedCommit => 11 | .markFault => 12 | .divergence => 13 | .snapshotGap => 14
  | .readbackFault => 15 | .addressInUse => 16

/-- Table 11-8: the code of a reply. -/
def ReplyCode.code (r : ReplyCode) : Nat :=
  match r with
  | .ok => 0 | .state => 1 | .range => 2 | .full => 3 | .duplicate => 4 | .tagInUse => 5
  | .waitsFull => 6 | .notFound => 7 | .inflight => 8 | .empty => 9 | .mismatch => 10
  | .unknownCommand => 11

/-- Table 11-6: remaining, 0 when absent and 0xFFFF for UNLIMITED. -/
def remainingCode (r : Option Remaining) : BitVec 16 :=
  match r with
  | none => 0
  | some (.cycles n) => BitVec.ofNat 16 n
  | some .unlimited => 0xFFFF

/-- Table 11-6 read back. -/
def remainingOfCode (w : BitVec 16) : Option Remaining :=
  if w = 0 then none else if w = 0xFFFF then some .unlimited else some (.cycles w.toNat)

/-! ## The status slot -/

/-- Table 11-2: the 16-bit number of a driven slot, its start bit 0 (dominant). -/
def slotWord (d : SlotDrive) : BitVec 16 :=
  BitVec.ofNat 16 (d.mode.code * 4096 + d.counter.toNat)

/-- R139: a slot is present when its start bit reads dominant. -/
def slotPresent (w : BitVec 16) : Bool :=
  !w.getLsbD 15

/-- R139: the mode a present slot shows. -/
def slotMode (w : BitVec 16) : SlotMode :=
  SlotMode.ofCode (w.extractLsb' 12 3).toNat

/-- R139: the counter a present slot shows. -/
def slotCounter (w : BitVec 16) : BitVec 12 :=
  w.extractLsb' 0 12

/-! ## The CRC -/

/-- R31: one step of the check register. -/
def crcBit (register : BitVec 16) (bit : Bool) : BitVec 16 :=
  if register.msb ^^ bit then (register <<< 1) ^^^ 0x8BB7#16 else register <<< 1

/-- R31: one byte, most significant bit first. -/
def crcByte (register : BitVec 16) (b : Byte) : BitVec 16 :=
  crcBit (crcBit (crcBit (crcBit (crcBit (crcBit (crcBit (crcBit register
    (b.getLsbD 7)) (b.getLsbD 6)) (b.getLsbD 5)) (b.getLsbD 4)) (b.getLsbD 3)) (b.getLsbD 2))
    (b.getLsbD 1)) (b.getLsbD 0)

/-- R31: the check value over header and payload, from 0xFFFF. -/
def crc (bytes : List Byte) : BitVec 16 :=
  bytes.foldl crcByte 0xFFFF#16

/-- R31: the CRC check of a message as read. -/
def crcPasses (m : MessageBytes) : Bool :=
  crc (m.toList.take 18) == word16 (m.get 18) (m.get 19)

/-! ## Messages -/

/-- Tables 11-3, 11-4: the 20 bytes of a message. -/
def formMessage (k : Kind) (sender : Addr) (basis : Byte) (payload : List Byte) : MessageBytes :=
  let body := nibbles k.code sender.val :: basis :: (vectorOf 16 payload).toList
  vectorOf 20 (body ++ bytes16 (crc body))

/-- The payload of a message as read. -/
def payloadOf (m : MessageBytes) : List Byte :=
  (m.toList.drop 2).take 16

/-- The kind code of a message as read (Table 11-3). -/
def kindOf (m : MessageBytes) : Option Kind :=
  Kind.ofCode (highNibble (m.get 0)).val

/-- The sender field of a message as read (Table 11-3). -/
def senderOf (m : MessageBytes) : Addr :=
  lowNibble (m.get 0)

/-- The basis of a message as read (Table 11-3). -/
def basisOf (m : MessageBytes) : Byte :=
  m.get 1

/-- The payload fields of a message, read by its kind (R33, R189); a zone, mode, reason, destination
or length is the code as read, since it may be out of range. -/
inductive Body where
  | found
  | joinReq
  | snap (index : Byte) (content : List Byte)
  | leave (reason : Byte)
  | evict (target : Addr) (reason : Byte)
  | release (zone : Byte)
  | cancel (zone : Byte)
  | claim (zone mode wait duration : Byte)
  | renew (zone duration : Byte)
  | note (destination length : Byte) (data : List Byte)
  deriving DecidableEq, Repr

/-- R189, Table 11-4: the fields of a payload of the kind given. Of a NOTE whose length field is out of range the
data are none at 0 and the twelve data bytes at 13 or more (DESIGN CHOICE, assumption 38). -/
def bodyOf (k : Kind) (p : List Byte) : Body :=
  match k with
  | .found => .found
  | .joinReq => .joinReq
  | .snap => .snap (p.getD 0 0) ((p.drop 1).take 15)
  | .leave => .leave (p.getD 0 0)
  | .evict => .evict (lowNibble (p.getD 0 0)) (p.getD 1 0)
  | .release => .release (p.getD 0 0)
  | .cancel => .cancel (p.getD 0 0)
  | .claim => .claim (p.getD 0 0) (p.getD 1 0) (p.getD 2 0) (p.getD 3 0)
  | .renew => .renew (p.getD 0 0) (p.getD 1 0)
  | .note => .note (p.getD 0 0) (p.getD 1 0) (((p.drop 2).take Config.noteMax).take (p.getD 1 0).toNat)

/-- The kind of a payload. -/
def Body.kind (b : Body) : Kind :=
  match b with
  | .found => .found
  | .joinReq => .joinReq
  | .snap _ _ => .snap
  | .leave _ => .leave
  | .evict _ _ => .evict
  | .release _ => .release
  | .cancel _ => .cancel
  | .claim _ _ _ _ => .claim
  | .renew _ _ => .renew
  | .note _ _ _ => .note

/-- R33, Table 2-2: whether a message from the sender is out of range. -/
def Body.outOfRange (b : Body) (sender : Addr) : Bool :=
  match b with
  | .found => false
  | .joinReq => false
  | .snap _ _ => false
  | .leave reason => !(reason == 1 || reason == 2)
  | .evict target reason => target == sender || (EvictReason.ofCode reason.toNat).isNone
  | .release zone => (zoneOf zone).isNone
  | .cancel zone => (zoneOf zone).isNone
  | .claim zone mode _ _ => (zoneOf zone).isNone || (LeaseMode.ofCode mode.toNat).isNone
  | .renew zone _ => (zoneOf zone).isNone
  | .note destination length _ =>
    Config.allMembers < destination.toNat || length == 0 || Config.noteMax < length.toNat

/-! ## Host requests on the line -/

/-- The kind of a request (R147). -/
def Request.kind (r : Request) : Kind :=
  match r with
  | .claim _ _ _ _ => .claim
  | .renew _ _ => .renew
  | .release _ => .release
  | .cancel _ => .cancel
  | .note _ _ => .note

/-- The class of a request (R147). -/
def Request.cls (r : Request) : MessageClass :=
  r.kind.cls

/-- The zone a request names; a NOTE names none (R119, R151). -/
def Request.zone? (r : Request) : Option ZoneId :=
  match r with
  | .claim z _ _ _ => some z
  | .renew z _ => some z
  | .release z => some z
  | .cancel z => some z
  | .note _ _ => none

/-- Whether a request is a CLAIM with the wait flag set (R157). -/
def Request.waitFlag (r : Request) : Bool :=
  match r with
  | .claim _ _ w _ => w != 0
  | .renew _ _ => false
  | .release _ => false
  | .cancel _ => false
  | .note _ _ => false

/-- R121, Table 11-4: the payload of a request, its fields as the host gave them. -/
def Request.payload (r : Request) : List Byte :=
  match r with
  | .claim z m w d => [natByte z.val, natByte m.code, w, d]
  | .renew z d => [natByte z.val, d]
  | .release z => [natByte z.val]
  | .cancel z => [natByte z.val]
  | .note destination data => destination :: natByte data.length :: data

/-! ## Snapshot blocks -/

/-- Table 11-5: four roles in a byte, the lowest address in the top bits. -/
def roleByte (a b c d : Role) : Byte :=
  natByte (a.code * 64 + b.code * 16 + c.code * 4 + d.code)

/-- Table 11-5, bytes 0 to 3: the role table. -/
def rolesBytes (roles : Vector Role 16) : List Byte :=
  [roleByte (roles.get 0) (roles.get 1) (roles.get 2) (roles.get 3),
   roleByte (roles.get 4) (roles.get 5) (roles.get 6) (roles.get 7),
   roleByte (roles.get 8) (roles.get 9) (roles.get 10) (roles.get 11),
   roleByte (roles.get 12) (roles.get 13) (roles.get 14) (roles.get 15)]

/-- The nibble of a join queue place; 0 beyond the length (R80). -/
def queuePlace (q : List Addr) (i : Nat) : Nat :=
  match q[i]? with
  | some a => a.val
  | none => 0

/-- Table 11-5, bytes 4 to 11: the join queue length and the join queue. -/
def joinQueueBytes (q : List Addr) : List Byte :=
  natByte q.length ::
    (List.range 7).map (fun i => nibbles (queuePlace q (2 * i)) (queuePlace q (2 * i + 1)))

/-- The progress byte: 0xFF when undefined (R190). -/
def progressByte (p : Option Nat) : Byte :=
  match p with
  | some n => natByte n
  | none => 0xFF

/-- R80, Table 11-5: the content of the roster block. -/
def rosterBlock (r : Roster) : List Byte :=
  rolesBytes r.roles ++ joinQueueBytes r.joinQueue ++ [progressByte r.progress] ++ bytes16 r.counter

/-- Table 11-6: one waiter record. -/
def waiterBytes (w : Waiter) : List Byte :=
  [nibbles w.station.val w.mode.code, w.duration]

/-- Table 11-6, bytes 6 to 13: the waiter records, places beyond the length 0. -/
def waitersBytes (q : List Waiter) : List Byte :=
  (vectorOf 8 (q.flatMap waiterBytes)).toList

/-- R81, Table 11-6: the content of a zone block. -/
def zoneBlock (e : ZoneEntry) : List Byte :=
  nibbles e.state.code e.queue.length :: bytes16 e.holders ++ bytes16 (remainingCode e.remaining)
    ++ e.generation :: waitersBytes e.queue ++ [0]

/-- The role of an address in a roster block's content (Table 11-5). -/
def blockRole (c : List Byte) (a : Addr) : Role :=
  Role.ofCode ((c.getD (a.val / 4) 0).toNat / 4 ^ (3 - a.val % 4) % 4)

/-- The join queue of a roster block's content, as many entries as its length gives. -/
def blockQueue (c : List Byte) : List Addr :=
  (List.range (c.getD 4 0).toNat).map (fun i =>
    if i % 2 = 0 then highNibble (c.getD (5 + i / 2) 0) else lowNibble (c.getD (5 + i / 2) 0))

/-- The roster a roster block carries (R80, R84). -/
def blockRoster (c : List Byte) : Roster :=
  { roles := tabulate 16 (blockRole c)
    joinQueue := blockQueue c
    progress := some (c.getD 12 0).toNat
    counter := word16 (c.getD 13 0) (c.getD 14 0) }

/-- R189: whether a roster block's content holds only values a donor forms. -/
def rosterBlockValid (c : List Byte) : Bool :=
  let r := blockRoster c
  r.donor.isSome
    && countAddrs (fun a => r.role a == .joining) == 1
    && (c.getD 4 0).toNat ≤ 14
    && r.queueFits
    && c.getD 12 0 == 0

/-- The waiter records of a zone block's content, as many as its length gives. A mode code that
stands for no mode is read as EXCLUSIVE; the validity test has excluded it. -/
def blockWaiters (c : List Byte) : List Waiter :=
  (List.range ((c.getD 0 0).toNat % 16)).map (fun i =>
    { station := highNibble (c.getD (6 + 2 * i) 0)
      mode := (LeaseMode.ofCode (lowNibble (c.getD (6 + 2 * i) 0)).val).getD .exclusive
      duration := c.getD (7 + 2 * i) 0 })

/-- The zone state of a zone block's content; a code above 2 stands for none. -/
def blockState (c : List Byte) : Option ZoneState :=
  match (c.getD 0 0).toNat / 16 with
  | 0 => some .free
  | 1 => some .exclusive
  | 2 => some .shared
  | _ => none

/-- The entry a zone block carries (R81, R85). -/
def blockEntry (c : List Byte) : ZoneEntry :=
  { state := (blockState c).getD .free
    holders := word16 (c.getD 1 0) (c.getD 2 0)
    remaining := remainingOfCode (word16 (c.getD 3 0) (c.getD 4 0))
    generation := c.getD 5 0
    queue := blockWaiters c }

/-- R189: whether every waiter record within the length carries a mode code. -/
def blockModesValid (c : List Byte) : Bool :=
  (List.range ((c.getD 0 0).toNat % 16)).all (fun i =>
    (LeaseMode.ofCode (lowNibble (c.getD (6 + 2 * i) 0)).val).isSome)

/-- R189: whether a zone block's content holds only values a donor forms. -/
def zoneBlockValid (c : List Byte) : Bool :=
  (blockState c).isSome && blockModesValid c && (blockEntry c).wf

/-- R189: whether the content of a SNAP of the index given is one a donor forms; an index above 64
names no block, and its content is not examined. -/
def snapContentValid (index : Nat) (content : List Byte) : Bool :=
  if index = 0 then rosterBlockValid content
  else if index ≤ Config.lastBlock then zoneBlockValid content
  else true

/-! ## Event records -/

/-- A bit of the presence byte (R191). -/
def presence (present : Bool) (weight : Nat) : Nat :=
  if present then weight else 0

/-- R191: the fields of a RESULT record after its sequence number and kind code. -/
def resultBytes (r : ResultRecord) : List Byte :=
  [r.tag, natByte r.kind.code, natByte r.outcome.code,
   natByte (presence r.zone.isSome 8 + presence r.position.isSome 4 + presence r.set.isSome 2
     + presence r.commit.isSome 1)]
    ++ (match r.zone with | some z => [natByte z.val] | none => [])
    ++ (match r.position with | some p => [natByte p] | none => [])
    ++ (match r.set with | some m => bytes16 m | none => [])
    ++ (match r.commit with | some c => bytes16 c | none => [])

/-- Table 11-11: a record from its kind code on. -/
def recordBytes (r : EventRecord) : List Byte :=
  match r with
  | .result x => 1 :: resultBytes x
  | .grant z m tag gen => [2, natByte z.val, natByte m.code, tag, gen]
  | .expire z gen => [3, natByte z.val, gen]
  | .zone z st holders len gen commit =>
    [4, natByte z.val, natByte st.code] ++ bytes16 holders ++ [natByte len, gen] ++ bytes16 commit
  | .note source data => [5, natByte source.val, natByte data.length] ++ data
  | .state old new reason held =>
    [6, natByte old.code, natByte new.code, natByte reason.code, natByte held]
  | .overflow lost => [7, natByte lost]

/-- Table 11-11: a queued record, sequence number first. -/
def queuedBytes (q : QueuedRecord) : List Byte :=
  q.sequence :: recordBytes q.record

end Sys2Proof.Machine
end

