-- ==== Sys2Proof/Machine/Operands.lean ====
section
/-! DEFINITION. The operand forms: how the bits a command carries are compared with the bits the
station drove, and how the parameter bytes of a host request become its entry. -/

namespace Sys2Proof.Machine

/-! ## Status slots -/

/-- The slot of an address among the sixteen as read. -/
def slotOf (slots : Slots) (a : Addr) : BitVec 16 :=
  slots.get a

/-- R68: the slot-derived set, the addresses whose slot showed SYNCED, DOUBT or JOINING. -/
def clusterSlots (slots : Slots) : StationSet :=
  setOf (fun a => slotPresent (slotOf slots a) &&
    (slotMode (slotOf slots a) == .synced || slotMode (slotOf slots a) == .doubt
      || slotMode (slotOf slots a) == .joining))

/-! ## The claim segment -/

/-- The seven bits of a claim, start bit first, as numbers on the line (Table 11-1): true is a 1 bit,
recessive. -/
def claimBits (start : Bool) (cls : BitVec 2) (addr : Addr) : List Bool :=
  [start, cls.getLsbD 1, cls.getLsbD 0, addr.val.testBit 3, addr.val.testBit 2, addr.val.testBit 1,
   addr.val.testBit 0]

/-- The bits a contender drives: its start bit dominant (R122). -/
def drivenClaim (cls : MessageClass) (own : Addr) : List Bool :=
  claimBits false cls.code own

/-- The bits of a claim segment as read. -/
def readClaim (r : ClaimRead) : List Bool :=
  claimBits (r.start == .recessive) r.cls r.addr

/-- How a contender fares against the bits it reads (R122, R123). -/
inductive ClaimResult where
  | won | lost | fault
  deriving DecidableEq, Repr

/-- R122, R123: the first bit at which driven and read differ decides: driven recessive and read
dominant is a loss, driven dominant and read recessive a fault. -/
def contend (driven read : List Bool) : ClaimResult :=
  match driven, read with
  | d :: ds, r :: rs => if d = r then contend ds rs else if d then .lost else .fault
  | _, _ => .won

/-- The bit a contender drives at a place of the claim segment; none beyond the address field. -/
def claimBitAt (cls : MessageClass) (own : Addr) (bit : Fin 7) : Option Bool :=
  (drivenClaim cls own)[bit.val]?

/-! ## The message segment -/

/-- The 160 bits of a message segment, in the order sent. -/
def messageBits (m : MessageBytes) : List Bool :=
  m.toList.flatMap (fun b => [b.getLsbD 7, b.getLsbD 6, b.getLsbD 5, b.getLsbD 4, b.getLsbD 3,
    b.getLsbD 2, b.getLsbD 1, b.getLsbD 0])

/-- The place of the first difference of two lists, counted from the number given. -/
def firstDifference (start : Nat) (a b : List Bool) : Option Nat :=
  match a, b with
  | x :: xs, y :: ys => if x = y then firstDifference (start + 1) xs ys else some start
  | _, _ => none

/-- R125: the first bit of the message segment read differently from the message sent. -/
def messageMismatch (sent read : MessageBytes) : Option (Fin 160) :=
  match firstDifference 0 (messageBits sent) (messageBits read) with
  | some n => if h : n < 160 then some ⟨n, h⟩ else none
  | none => none

/-! ## The verdict copies -/

/-- R34: the bits this station drives in a verdict copy, by its stance. -/
def drivenCopy (stance : Stance) (own : Addr) : VerdictCopy :=
  match stance with
  | .accept => { accept := single own, object := 0 }
  | .object => { accept := 0, object := single own }
  | .silent => emptyCopy
  | .notTaken => emptyCopy

/-- R144: whether this station's two bits of a copy read otherwise than driven. -/
def copyMismatch (stance : Stance) (own : Addr) (copy : VerdictCopy) : Bool :=
  mem copy.accept own != mem (drivenCopy stance own).accept own
    || mem copy.object own != mem (drivenCopy stance own).object own

/-- Table 11-1: the verdict bits that belong to an address. -/
def isVerdictBit (bit : Fin 512) (own : Addr) : Bool :=
  bit.val == 436 + own.val || bit.val == 452 + own.val || bit.val == 468 + own.val
    || bit.val == 484 + own.val

/-- Table 11-1: the bits of an address's status slot. -/
def isSlotBit (bit : Fin 512) (own : Addr) : Bool :=
  16 * own.val ≤ bit.val && bit.val < 16 * own.val + 16

/-! ## Parameter bytes of line requests -/

/-- A request's parameters, or none when one is out of range (R148 step 2). -/
def claimRequest (zone mode wait duration : Byte) : Option Request :=
  match zoneOf zone, LeaseMode.ofCode mode.toNat with
  | some z, some m => some (.claim z m wait duration)
  | _, _ => none

/-- RENEW (R179). -/
def renewRequest (zone duration : Byte) : Option Request :=
  (zoneOf zone).map (fun z => .renew z duration)

/-- RELEASE (R179). -/
def releaseRequest (zone : Byte) : Option Request :=
  (zoneOf zone).map .release

/-- CANCEL (R179). -/
def cancelRequest (zone : Byte) : Option Request :=
  (zoneOf zone).map .cancel

/-- NOTE (R179): destination 17 or more, or length 0 or 13 or more, is out of range. -/
def noteRequest (destination length : Byte) (data : List Byte) : Option Request :=
  if Config.allMembers < destination.toNat ∨ length = 0 ∨ Config.noteMax < length.toNat then none
  else some (.note destination (data.take length.toNat))

/-- R178: the configuration record five parameter bytes give, or none when a field is out of range. -/
def configRequest (address silenceLimit formationWait retryLimit rejoin : Byte) :
    Option ConfigRecord :=
  match addrOf address with
  | none => none
  | some a =>
    if silenceLimit.toNat < 2 ∨ 31 < silenceLimit.toNat ∨ formationWait.toNat < 8
        ∨ retryLimit.toNat < 1 ∨ 15 < retryLimit.toNat then none
    else
      some { address := some a, silenceLimit := silenceLimit.toNat
             formationWait := formationWait.toNat, retryLimit := retryLimit.toNat
             rejoin := rejoin != 0 }

end Sys2Proof.Machine
end

