-- ==== Sys2Proof/Machine/Flags.lean ====
section
/-! DEFINITION. The flags and conditions the rules read off the state: the station's own role, what
replica it holds, which zones it keeps, the port status byte and the pins. Each is computed, never
stored. -/

namespace Sys2Proof.Machine

/-! ## The station in its roster -/

/-- The configured address (R96). -/
def State.own (s : State) : Option Addr :=
  s.controller.config.address

/-- Whether an address is this station's. -/
def State.isOwn (s : State) (a : Addr) : Bool :=
  s.own == some a

/-- This station's address as a set. -/
def State.ownSet (s : State) : StationSet :=
  singleOpt s.own

/-- This station's role in its own roster; ABSENT with no address. -/
def State.ownRole (s : State) : Role :=
  match s.own with
  | some a => s.roster.role a
  | none => .absent

/-- The local state. -/
def State.station (s : State) : StationState :=
  s.controller.station

/-- R36, R175: the station takes the full stance of a member: SYNCED, or LEAVING with own roster role
MEMBER. It is the "replica certain" condition. -/
def State.certain (s : State) : Bool :=
  match s.station with
  | .synced => true
  | .leaving => s.ownRole == .member
  | .offline => false
  | .standby => false
  | .seeking => false
  | .joining => false
  | .doubt => false
  | .faulted => false

/-- R41, R94: the station acquires a replica: JOINING, or LEAVING while its own role is not MEMBER. -/
def State.acquiring (s : State) : Bool :=
  match s.station with
  | .joining => true
  | .leaving => s.ownRole != .member
  | .offline => false
  | .standby => false
  | .seeking => false
  | .synced => false
  | .doubt => false
  | .faulted => false

/-- R45, R55, R76, R114: whether the station holds a roster it can decide with. In DOUBT the loaded-block
count is not read (R76): a roster that was loaded or formed names a MEMBER (R189, R64), and one that was not is
cleared and has no donor (R55). -/
def State.holdsRoster (s : State) : Bool :=
  match s.station with
  | .synced => true
  | .joining => 1 ≤ s.snapshot.loaded
  | .leaving => s.ownRole == .member || 1 ≤ s.snapshot.loaded
  | .doubt => s.roster.donor.isSome
  | .offline => false
  | .standby => false
  | .seeking => false
  | .faulted => false

/-- R76: a zone is loaded when the loaded-block count is at least z + 2. -/
def State.zoneLoaded (s : State) (z : ZoneId) : Bool :=
  z.val + 2 ≤ s.snapshot.loaded

/-- R4, Table 1-2: whether commits and the expiry pass reach the zone. -/
def State.zoneActive (s : State) (z : ZoneId) : Bool :=
  s.certain || (s.acquiring && s.zoneLoaded z)

/-- R20, R22: the station reports its own grants and expiries. -/
def State.reportsLeases (s : State) : Bool :=
  s.station == .synced || s.station == .leaving

/-- R112: the local states in which a doubt trigger acts. -/
def State.canDoubt (s : State) : Bool :=
  s.station == .synced || s.station == .leaving || s.station == .joining

/-- R110: the cluster states, from which the rejoin flag acts. -/
def StationState.isCluster (st : StationState) : Bool :=
  st == .joining || st == .synced || st == .leaving || st == .doubt

/-- R144, R145: OFFLINE and FAULTED own no bit of the line. -/
def State.ownsBits (s : State) : Bool :=
  s.station != .offline && s.station != .faulted

/-- R28: the held-zone count. -/
def State.heldZones (s : State) : Nat :=
  allZones.countP (fun z =>
    match s.own with
    | some a => mem (s.zones.get z).holders a
    | none => false)

/-- R97, Table 5-3: the mode of the slot the station drives, if it drives one. The table has no row for a LEAVING
station that holds a roster giving its own role ABSENT: the model drives JOINING there (DESIGN CHOICE,
assumption 40). -/
def State.slotMode? (s : State) : Option SlotMode :=
  match s.station with
  | .offline => none
  | .standby => if s.controller.listen < Config.listenCycles then none else some .standby
  | .seeking => some .seeking
  | .joining => some .joining
  | .synced => some .synced
  | .leaving => if s.ownRole = .member then some .synced else some .joining
  | .doubt => some .doubt
  | .faulted => none

/-- R97, R138: the slot the station drives from a cycle mark: the low 12 bits of its counter. -/
def State.slotFromMark (s : State) : Option SlotDrive :=
  match s.slotMode?, s.own with
  | some m, some a => some { address := a, mode := m, counter := s.roster.counter.extractLsb' 0 12 }
  | _, _ => none

/-- R30: the basis, the low 8 bits of the commit counter; 0 for a station that holds no roster, whose
counter is 0 (R57). -/
def State.basis (s : State) : Byte :=
  s.roster.counter.extractLsb' 0 8

/-! ## The line -/

/-- The order of the points in a cycle. -/
def CyclePoint.rank (p : CyclePoint) : Nat :=
  match p with
  | .mark => 0 | .status => 1 | .selection => 2 | .claim => 3 | .message => 4 | .verdict => 5

/-- Whether a cycle position is one of the 512 bits. -/
def CyclePosition.isBit (p : CyclePosition) : Bool :=
  match p with
  | .bit _ => true
  | .due => false
  | .waiting => false
  | .stretch _ => false

/-- Whether a point can still be made in the cycle: the position is one of its bits, neither WAITING (R142)
nor in the stretch (R136), and the point has not been made or passed. -/
def State.canMake (s : State) (p : CyclePoint) : Bool :=
  s.line.position.isBit && s.line.point.rank < p.rank

/-- Whether this station won the claim segment with the message in flight (R122). -/
def State.won (s : State) : Bool :=
  match s.selector.inFlight with
  | some m => m.claim == .won
  | none => false

/-- R120, R122: the claim segment was idle: its start bit read recessive. A cycle whose claim segment
was not handed over is idle when nothing set the claim-active flag. -/
def State.claimIdle (s : State) : Bool :=
  match s.verdict.claim with
  | some .idle => true
  | some (.winner _ _) => false
  | none => !s.line.claimActive

/-! ## The queues -/

/-- R164: the free-entry count. -/
def EventQueue.free (q : EventQueue) : Nat :=
  match q.records.getLast? with
  | some { record := .overflow _, .. } => 0
  | some _ => Config.eventRoom - q.records.length
  | none => Config.eventRoom - q.records.length

/-- R157: the wait count. -/
def SendQueue.waitCount (q : SendQueue) : Nat :=
  q.ownWaits.length + q.entries.countP (fun e => e.request.waitFlag)

/-- The send queue entry in flight, if any (R126). -/
def SendQueue.flying (q : SendQueue) : Option SendEntry :=
  q.entries.find? (fun e => e.state == .inFlight)

/-! ## The host port -/

/-- R175, Table 10-3: the port status byte as the station stands. -/
def State.statusByte (s : State) : StatusByte :=
  { station := s.station
    eventPending := !s.events.records.isEmpty
    queueFull := s.sendQueue.entries.length == Config.sendQueueCapacity
    queueEmpty := s.sendQueue.entries.isEmpty
    certain := s.certain
    configured := s.controller.configured }

/-- Table 11-9: the bits of the status byte. -/
def StatusByte.toByte (b : StatusByte) : Byte :=
  natByte (b.station.code * 32 + presence b.eventPending 16 + presence b.queueFull 8
    + presence b.queueEmpty 4 + presence b.certain 2 + presence b.configured 1)

/-- The bytes of a reply, its code first (R176). -/
def Reply.bytes (r : Reply) : List Byte :=
  natByte r.code.code :: r.data

/-- R173: the byte the port shifts out in the phase it stands in; none in IDLE, where no transaction runs.
SDO is released there, but for a CS# held low across the release of RST#: R172 has SDO driven while CS# is low
and begins no transaction, and does not say what SDO then carries. That the model gives no byte there is its
own choice (DESIGN CHOICE, assumption 36). -/
def Port.byteOut (p : Port) : Option Byte :=
  match p.phase with
  | .idle => none
  | .command => p.status.map StatusByte.toByte
  | .parameters => some 0
  | .reply => some ((p.reply.map Reply.bytes).getD [] |>.getD p.replyPosition 0)
  | .drained => some 0

/-! ## The output pins -/

/-- The bits this station drives in the message segment (R125): its message up to the first mismatch,
recessive from there on; nothing before it has won. -/
def InFlight.messageBit (m : InFlight) (i : Nat) : Bool :=
  if m.claim = .won then
    match m.mismatchFrom with
    | some b => if i < b.val then (messageBits m.message).getD i true else true
    | none => (messageBits m.message).getD i true
  else true

/-- The number on the line that a driven slot gives a bit of the cycle (R138). -/
def SlotDrive.lineBit (d : SlotDrive) (bit : Fin 512) : Bool :=
  if isSlotBit bit d.address then (slotWord d).getLsbD (15 - (bit.val - 16 * d.address.val)) else true

/-- The number on the line (true is a 1 bit, recessive) that this station drives in a bit of the
cycle, given its address (R135, R137): the slot taken at the mark, its claim while it contends, its message
when it has won, its stance in both verdict copies, and nothing elsewhere. -/
def State.lineBit (s : State) (own : Addr) (bit : Fin 512) : Bool :=
  if bit.val < 256 then
    match s.line.slotDrive with
    | some d => d.lineBit bit
    | none => true
  else if 260 ≤ bit.val ∧ bit.val < 267 then
    match s.selector.inFlight with
    | some m => (drivenClaim m.cls own).getD (bit.val - 260) true
    | none => true
  else if 272 ≤ bit.val ∧ bit.val < 432 then
    match s.selector.inFlight with
    | some m => m.messageBit (bit.val - 272)
    | none => true
  else if bit.val = 436 + own.val ∨ bit.val = 468 + own.val then s.verdict.stance != .accept
  else if bit.val = 452 + own.val ∨ bit.val = 484 + own.val then s.verdict.stance != .object
  else true

/-- The number on the line in a bit of the cycle that this station alone drives; recessive beyond the cycle. -/
def State.ownLevel (s : State) (n : Nat) : Bool :=
  match s.own with
  | some own => if h : n < 512 then s.lineBit own ⟨n, h⟩ else true
  | none => true

/-- R134: a bit of the cycle as read: as a row has told it, else as this station alone drives it
(assumption 5). -/
def State.readLevel (s : State) (n : Nat) : Bool :=
  s.line.heard.getD n (s.ownLevel n)

/-- R135, R142, R192: PLD in a bit of the cycle; released in WAITING, while RST# is low, and by a
station with no address. -/
def State.pldDominant (s : State) (bit : Fin 512) : Bool :=
  match s.own with
  | some a => !s.port.rstLow && s.line.position != .waiting && !s.lineBit a bit
  | none => false

/-- R169, R192: EVT# is low while the event queue holds a record, and released while RST# is low. -/
def State.evtLow (s : State) : Bool :=
  !s.port.rstLow && !s.events.records.isEmpty

/-- R172, R192: SDO is driven while CS# is low, outside RST#. -/
def State.sdoDriven (s : State) : Bool :=
  !s.port.rstLow && s.port.csLow

end Sys2Proof.Machine
end

