-- ==== Sys2Proof/Machine/Ops.lean ====
section
/-! DEFINITION. The shared operations: placing event records, ending send queue entries, entering each
local state, applying changes to the zone table, and reading back owned bits. -/

namespace Sys2Proof.Machine

/-! ## The event queue -/

/-- R162: a record appended with the next sequence number. -/
def EventQueue.append (q : EventQueue) (r : EventRecord) : EventQueue :=
  { q with
    records := q.records ++ [{ sequence := q.nextSequence, record := r }]
    nextSequence := q.nextSequence + 1 }

/-- R163: a record placed at the tail, by one of the three courses. -/
def EventQueue.place (q : EventQueue) (r : EventRecord) : EventQueue :=
  match q.records.getLast? with
  | some { sequence := n, record := .overflow lost } =>
    { q with
      records := q.records.dropLast ++
        [{ sequence := n, record := .overflow (saturate Config.lostMax lost) }] }
  | _ => if q.records.length < Config.eventRoom then q.append r else q.append (.overflow 1)

/-- R164: the records of one event, placed one after another. -/
def State.placeAll (s : State) (rs : List EventRecord) : State :=
  s.setEvents (rs.foldl EventQueue.place s.events)

/-- One record placed. -/
def State.place (s : State) (r : EventRecord) : State :=
  s.setEvents (s.events.place r)

/-! ## Ends of send queue entries -/

/-- R151: the RESULT record of an entry, with the zone of a request that names one. -/
def SendEntry.result (e : SendEntry) (o : RequestOutcome) (position : Option Nat)
    (set : Option StationSet) (commit : Option (BitVec 16)) : EventRecord :=
  .result { tag := e.tag, kind := e.request.kind, outcome := o, zone := e.request.zone?
            position := position, set := set, commit := commit }

/-- R153: the RESULT record of a withdrawn entry. -/
def SendEntry.withdrawn (e : SendEntry) : EventRecord :=
  e.result .withdrawn none none none

/-- R154: the RESULT record of an entry whose last attempt the station lost sight of. -/
def SendEntry.lost (e : SendEntry) : EventRecord :=
  e.result .unknown none none none

/-- Whether an entry is in flight. -/
def SendEntry.flying (e : SendEntry) : Bool :=
  e.state == .inFlight

/-- The queue without the entry of a tag; the entries behind it close up (R147). -/
def SendQueue.drop (q : SendQueue) (tag : Byte) : SendQueue :=
  { q with entries := q.entries.filter (fun e => e.tag != tag) }

/-- The queue with the entry of a tag changed. -/
def SendQueue.change (q : SendQueue) (tag : Byte) (f : SendEntry → SendEntry) : SendQueue :=
  { q with entries := q.entries.map (fun e => if e.tag = tag then f e else e) }

/-- The entry of a tag (R147: at most one). -/
def SendQueue.find (q : SendQueue) (tag : Byte) : Option SendEntry :=
  q.entries.find? (fun e => e.tag == tag)

/-- R109 step 2, R153: every entry withdrawn, in queue order. -/
def State.withdrawAll (s : State) : State :=
  (s.setSendQueue { s.sendQueue with entries := [] }).placeAll
    (s.sendQueue.entries.map SendEntry.withdrawn)

/-- R107 step 1: every entry not in flight withdrawn, in queue order. -/
def State.withdrawWaiting (s : State) : State :=
  (s.setSendQueue
      { s.sendQueue with entries := s.sendQueue.entries.filter SendEntry.flying }).placeAll
    ((s.sendQueue.entries.filter (fun e => !e.flying)).map SendEntry.withdrawn)

/-- R113, R115 steps 1 and 2: the entry in flight UNKNOWN, then the others withdrawn in queue order;
the own waits list emptied without events. -/
def State.abandonQueue (s : State) : State :=
  (s.setSendQueue SendQueue.cleared).placeAll
    ((s.sendQueue.entries.filter SendEntry.flying).map SendEntry.lost
      ++ (s.sendQueue.entries.filter (fun e => !e.flying)).map SendEntry.withdrawn)

/-- The entry of a tag ended with its outcome: it leaves the queue and its RESULT is placed (R150). -/
def State.endEntry (s : State) (tag : Byte) (o : RequestOutcome) (position : Option Nat)
    (set : Option StationSet) (commit : Option (BitVec 16)) : State :=
  match s.sendQueue.find tag with
  | some e => (s.setSendQueue (s.sendQueue.drop tag)).place (e.result o position set commit)
  | none => s

/-! ## Changes of local state -/

/-- The local state replaced. -/
def State.setStation (s : State) (st : StationState) : State :=
  s.setController { s.controller with station := st }

/-- R98: a change of local state with its STATE record. -/
def State.changeStation (s : State) (st : StationState) (reason : StateReason) (held : Nat) : State :=
  (s.setStation st).place (.state s.station st reason held)

/-- R102: what takes place on each entry to SEEKING. -/
def State.beginSeeking (s : State) : State :=
  ((s.setRoster Roster.cleared).setController { s.controller with formation := 0 }).setSelector
    { s.selector with sync := none, seekHold := 0 }

/-- R67: the peer watch on leaving the cluster: mismatch counts, refused marks and the divergence
count cleared, the rest kept. -/
def Monitor.leave (m : Monitor) : Monitor :=
  { m with
    peers := tabulate 16 (fun a => { m.peers.get a with mismatch := 0, refused := false })
    divergence := 0 }

/-- R109 steps 3 to 6 and R53: the replica, the roster and what belongs to them cleared. -/
def State.clearCluster (s : State) : State :=
  { s with
    sendQueue := { s.sendQueue with ownWaits := [] }
    zones := ZoneTable.cleared
    roster := Roster.cleared
    monitor := s.monitor.leave
    snapshot := Snapshot.cleared
    selector := Selector.cleared
    verdict := s.verdict.drop
    controller := { s.controller with formation := 0 } }

/-- R109: the departure effects, with the change of local state they belong to. -/
def State.depart (s : State) (st : StationState) (reason : StateReason) : State :=
  (s.withdrawAll.clearCluster).changeStation st reason s.heldZones

/-- R110: with the rejoin flag on, arrival in STANDBY from a cluster state goes on into SEEKING. -/
def State.rejoin (s : State) (old : StationState) : State :=
  if s.controller.config.rejoin && old.isCluster then
    (s.changeStation .seeking .rejoin 0).beginSeeking
  else s

/-- R109, R110: arrival in STANDBY. -/
def State.arriveStandby (s : State) (reason : StateReason) : State :=
  (s.depart .standby reason).rejoin s.station

/-- R105, R109: the change from JOINING to SEEKING. -/
def State.backToSeeking (s : State) (reason : StateReason) : State :=
  (s.depart .seeking reason).beginSeeking

/-- R69, R114: every mismatch count 0, the rest of the peer watch kept. -/
def Monitor.noMismatch (m : Monitor) : Monitor :=
  { m with peers := tabulate 16 (fun a => { m.peers.get a with mismatch := 0 }) }

/-- R113: entry to DOUBT. The zone table and the roster stand frozen; the loaded-block and stall
counts and the served flag are kept. -/
def State.enterDoubt (s : State) (reason : StateReason) : State :=
  let a := s.abandonQueue
  { a with
    monitor := { a.monitor.noMismatch with divergence := 0 }
    snapshot := { a.snapshot with sending := none }
    selector := { Selector.cleared with served := a.selector.served }
  }.changeStation .doubt reason s.heldZones

/-- R115: entry to FAULTED. -/
def State.enterFaulted (s : State) (reason : StateReason) : State :=
  let a := s.abandonQueue
  { a with
    zones := ZoneTable.cleared
    roster := Roster.cleared
    monitor := Monitor.cleared
    snapshot := Snapshot.cleared
    selector := Selector.cleared
    verdict := a.verdict.drop
    controller := { a.controller with formation := 0 }
    line := { a.line with runCount := 0, slotDrive := none, cleanPending := false }
  }.changeStation .faulted reason s.heldZones

/-- R106: entry to SYNCED, with the replica the caller has put in place. Of the counts R106 names those of
divergence and of the Snapshot Engine; the formation count, which only SEEKING reads (R102), is set to 0 with them, as
R105 has it on entry to JOINING (DESIGN CHOICE, assumption 41). -/
def State.enterSynced (s : State) (reason : StateReason) : State :=
  { s with
    monitor := { s.monitor with divergence := 0 }
    snapshot := Snapshot.cleared
    selector := { s.selector with sync := none, seekHold := 0, snapHold := 0 }
    sendQueue := SendQueue.cleared
    controller := { s.controller with formation := 0 }
  }.changeStation .synced reason s.heldZones

/-- R105: entry to JOINING. -/
def State.enterJoining (s : State) : State :=
  { s with
    snapshot := Snapshot.cleared
    selector := { s.selector with sync := none, seekHold := 0 }
    controller := { s.controller with formation := 0 }
  }.changeStation .joining .admitted s.heldZones

/-! ## The end of a cycle -/

/-- R129: a hold-off above 0 decreases by one, in the state that owns its duty. -/
def State.runHoldOffs (s : State) : State :=
  match s.station with
  | .seeking => s.setSelector { s.selector with seekHold := s.selector.seekHold - 1 }
  | .synced => s.setSelector { s.selector with snapHold := s.selector.snapHold - 1 }
  | .offline => s
  | .standby => s
  | .joining => s
  | .leaving => s
  | .doubt => s
  | .faulted => s

/-- R91, R108: join stall takes a joiner to SEEKING, and a LEAVING station to STANDBY. -/
def State.joinStall (s : State) : State :=
  match s.station with
  | .joining => s.backToSeeking .joinStall
  | .leaving => s.arriveStandby .joinStall
  | .offline => s
  | .standby => s
  | .seeking => s
  | .synced => s
  | .doubt => s
  | .faulted => s

/-- R91: whether the end of this cycle, with no SNAP decided committed in it, makes the stall count
reach 128. -/
def State.stallDue (s : State) : Bool :=
  s.acquiring && Config.stallLimit ≤ s.snapshot.stall + 1

/-- R91: one more cycle with no SNAP decided committed, up to the limit. -/
def State.countStall (s : State) : State :=
  s.setSnapshot { s.snapshot with stall := saturate Config.stallLimit s.snapshot.stall }

/-- R91: the end of a cycle in which no SNAP was decided committed: the stall count, and at the limit join
stall. -/
def State.stallStep (s : State) : State :=
  if s.stallDue then s.countStall.joinStall
  else if s.acquiring then s.countStall
  else s

/-- R76, R127, R131: the message in flight becomes none, and so does the block being sent; an entry
that was in flight is WAITING again. -/
def State.dropFlight (s : State) : State :=
  { s with
    selector := { s.selector with inFlight := none }
    snapshot := { s.snapshot with sending := none }
    sendQueue :=
      { s.sendQueue with
        entries := s.sendQueue.entries.map (fun e => { e with state := .waiting }) } }

/-! ## Counters -/

/-- One more on a line counter (R146). -/
def lineCount (n : Nat) : Nat :=
  saturate Config.lineCounterMax n

def State.countCommit (s : State) : State :=
  s.setLine { s.line with
    counters := { s.line.counters with commitsSeen := lineCount s.line.counters.commitsSeen } }

def State.countCrcError (s : State) : State :=
  s.setLine { s.line with
    counters := { s.line.counters with crcErrors := lineCount s.line.counters.crcErrors } }

def State.countArbitrationLoss (s : State) : State :=
  s.setLine { s.line with
    counters :=
      { s.line.counters with arbitrationLosses := lineCount s.line.counters.arbitrationLosses } }

def State.countDisagreement (s : State) : State :=
  s.setLine { s.line with
    counters :=
      { s.line.counters with copyDisagreements := lineCount s.line.counters.copyDisagreements } }

def State.countMarkFault (s : State) : State :=
  s.setLine { s.line with
    counters := { s.line.counters with markFaults := lineCount s.line.counters.markFaults } }

def State.countMismatch (s : State) : State :=
  s.setLine { s.line with
    counters :=
      { s.line.counters with readbackMismatches := lineCount s.line.counters.readbackMismatches } }

/-! ## The cycle position -/

/-- The position moved on to a bit, never back. -/
def CyclePosition.advanceTo (p : CyclePosition) (bit : Fin 512) : CyclePosition :=
  match p with
  | .bit n => if n < bit then .bit bit else .bit n
  | .due => .due
  | .waiting => .waiting
  | .stretch n => .stretch n

/-- A point made at a bit of the cycle. -/
def State.makePoint (s : State) (p : CyclePoint) (bit : Fin 512) : State :=
  s.setLine { s.line with point := p, position := s.line.position.advanceTo bit }

/-- The position moved on to a bit at which something was found. -/
def State.reachBit (s : State) (bit : Fin 512) : State :=
  s.setLine { s.line with position := s.line.position.advanceTo bit }

/-- The bits of the cycle as read when a bit is found to be read otherwise than driven: those before it as read
so far, then that bit. -/
def State.heardTo (s : State) (n : Nat) : List Bool :=
  (List.range n).map s.readLevel ++ (!s.ownLevel n) :: s.line.heard.drop (n + 1)

/-- A row names a bit of the cycle that was read otherwise than this station drove it: the position moves on to
it, and its value as read is kept for what is read later in the cycle (R134). -/
def State.misreadBit (s : State) (bit : Fin 512) : State :=
  (s.setLine { s.line with heard := s.heardTo bit.val }).reachBit bit

/-! ## Owned bits -/

/-- R145: an owned bit mismatched. Only the first mismatch of a cycle counts; the third such cycle in
a row faults the station. -/
def State.ownedMismatch (s : State) : State :=
  if s.line.mismatchSeen then s
  else
    let t := s.countMismatch
    let u := t.setLine { t.line with
      mismatchSeen := true, cleanPending := false
      runCount := min (s.line.runCount + 1) Config.readbackLimit }
    if Config.readbackLimit ≤ s.line.runCount + 1 then u.enterFaulted .readbackFault else u

/-- R145: a cycle whose owned bits are all read, none of them mismatched, sets the run count to 0. -/
def State.clearRun (s : State) : State :=
  s.setLine { s.line with runCount := 0, cleanPending := false }

/-- R36, R41, R42: the local states that take a stance in a cycle with a message. -/
def State.takesStance (s : State) : Bool :=
  s.certain || s.acquiring || s.station == .doubt

/-- R145: a status slot driven and read clean. It is the end of the cycle's owned bits at a station that takes
no stance (R43), and sets the run count to 0. At one that may, the count stands until the cycle settles it:
whether a stance is taken is not known before the claim segment is read (assumption 8). -/
def State.cleanSlot (s : State) : State :=
  if s.line.mismatchSeen then s
  else if s.takesStance then s.setLine { s.line with cleanPending := true }
  else s.clearRun

/-- R145: the run count at the end of a cycle: a clean slot of a cycle that took no stance sets it to 0. -/
def State.runAtEnd (s : State) : Nat :=
  if s.line.cleanPending && s.verdict.stance == .notTaken then 0 else s.line.runCount

/-- R145: the cycle takes no stance, so that a clean slot was the last of its owned bits. -/
def State.settleRun (s : State) : State :=
  if s.line.cleanPending then s.clearRun else s

/-- R144: the slot driven from the mark compared with that slot as read. In OFFLINE and FAULTED the station
owns no bit (R145). -/
def State.readBackSlot (s : State) (slots : Slots) : State :=
  match s.line.slotDrive with
  | some d =>
    if s.ownsBits then
      if slotOf slots d.address = slotWord d then s.cleanSlot else s.ownedMismatch
    else s
  | none => s

/-- R144, R145: the station's verdict bits as driven compared with both copies as read; a cycle with
no mismatch sets the count to 0. -/
def State.readBackVerdict (s : State) (a b : VerdictCopy) : State :=
  match s.own with
  | some own =>
    if s.verdict.stance = .notTaken ∨ s.ownsBits = false then s.settleRun
    else if copyMismatch s.verdict.stance own a || copyMismatch s.verdict.stance own b then
      s.ownedMismatch
    else if s.line.mismatchSeen then s
    else s.clearRun
  | none => s

/-! ## The zone table -/

/-- What an application makes of every zone: the rule on the zones it reaches, nothing on the
others (R4). -/
def State.zoneChanges (s : State) (f : ZoneId → ZoneEntry → ZoneChange) : Vector ZoneChange 64 :=
  tabulate 64 (fun z =>
    if s.zoneActive z then f z (s.zones.get z) else unchangedZone (s.zones.get z))

/-- The entries after an application. -/
def changedEntries (changes : Vector ZoneChange 64) : ZoneTable :=
  tabulate 64 (fun z => (changes.get z).entry)

/-- R22: this station's EXPIRE record for a zone. -/
def State.expireRecords (s : State) (z : ZoneId) (before : ZoneEntry) (c : ZoneChange) :
    List EventRecord :=
  match s.own with
  | some a =>
    if s.reportsLeases && mem c.expired a then [.expire z before.generation] else []
  | none => []

/-- R20: this station's GRANT record for a zone, with the tag of its own waits record. -/
def State.grantRecords (s : State) (z : ZoneId) (c : ZoneChange) : List EventRecord :=
  match s.own with
  | some a =>
    if s.reportsLeases && mem c.granted a then
      match s.sendQueue.ownWaits.find? (fun w => w.zone == z) with
      | some w => [.grant z (modeOfState c.entry.state) w.tag c.entry.generation]
      | none => []
    else []
  | none => []

/-- R26: the ZONE record of a watched zone that changed. -/
def State.watchRecords (s : State) (z : ZoneId) (before : ZoneEntry) (c : ZoneChange) :
    List EventRecord :=
  if s.certain && zoneFlag s.policy.watch z && zoneDiffers before c.entry then
    [.zone z c.entry.state c.entry.holders c.entry.queue.length c.entry.generation
      s.roster.counter]
  else []

/-- R27: the records of one application, zones ascending, and EXPIRE, GRANT, ZONE within each. -/
def State.zoneRecords (s : State) (before : ZoneTable) (changes : Vector ZoneChange 64) :
    List EventRecord :=
  allZones.flatMap (fun z =>
    s.expireRecords z (before.get z) (changes.get z) ++ s.grantRecords z (changes.get z)
      ++ s.watchRecords z (before.get z) (changes.get z))

/-- R20, R156: the own waits list without the records of the zones granted to this station. -/
def State.waitsAfter (s : State) (changes : Vector ZoneChange 64) : List OwnWait :=
  match s.own with
  | some a =>
    if s.reportsLeases then
      s.sendQueue.ownWaits.filter (fun w => !mem (changes.get w.zone).granted a)
    else s.sendQueue.ownWaits
  | none => s.sendQueue.ownWaits

/-- R20, R26, R27: the reports of an application whose entries are already in place. -/
def State.reportZones (s : State) (before : ZoneTable) (changes : Vector ZoneChange 64) : State :=
  (s.setSendQueue { s.sendQueue with ownWaits := s.waitsAfter changes }).placeAll
    (s.zoneRecords before changes)

/-- R21, R22: the expiry pass of a cycle mark. -/
def State.expiryPass (s : State) : State :=
  let changes := s.zoneChanges (fun _ e => expireZone e)
  (s.setZones (changedEntries changes)).reportZones s.zones changes

end Sys2Proof.Machine
end

