-- ==== Sys2Proof/Machine/LineMarks.lean ====
section
/-! DEFINITION. Cycle marks: CYCLE_MARK, EARLY_MARK, LOST_MARK (sections 7.3 and 7.6). -/

namespace Sys2Proof.Machine

/-- While RST# is low the station holds its hardware-reset value: nothing but RST# reaches it (R172,
R192). -/
def State.unlessReset (s t : State) : State :=
  if s.port.rstLow then s else t

/-- R136, R53: the Line Interface begins a new cycle: the claim-active flag copied and cleared, the
receive register emptied, stance and copies reset. A clean slot of the cycle that ends here without a stance
was the last of its owned bits (R145). -/
def State.openCycle (s : State) : State :=
  { s with
    line :=
      { s.line with
        position := .bit 0
        point := .mark
        prevClaimActive := s.line.claimActive
        claimActive := false
        receive := none
        intact := none
        mismatchSeen := false
        runCount := s.runAtEnd
        cleanPending := false
        heard := [] }
    verdict := VerdictUnit.cleared
    monitor := { s.monitor with slotDerived := 0 } }

/-- R97, R138: the slot of the new cycle, from the state that stands after the mark's own changes. -/
def State.driveSlot (s : State) : State :=
  s.setLine { s.line with slotDrive := s.slotFromMark }

/-- R136: a cycle mark begins a cycle in full: the new cycle opened, the expiry pass run (R21), the
slot of the cycle taken (R97). -/
def State.beginCycle (s : State) : State :=
  s.openCycle.expiryPass.driveSlot

/-- R141: a mark is early by the station's own count at bits 0 to 511; in WAITING and in the stretch it
is timely (R136, R142). -/
def State.markIsEarly (s : State) : Bool :=
  match s.line.position with
  | .waiting => false
  | .bit _ => true
  | .due => false
  | .stretch _ => false

/-- R133: the claim-active flag of a cycle cut at a bit, set also by a claim start bit that was read
dominant before the mark. -/
def State.cutClaimActive (s : State) (bit : Fin 512) (claimStart : Level) : Bool :=
  s.line.claimActive
    || (s.line.point.rank < CyclePoint.claim.rank && 260 < bit.val && claimStart == .dominant)

/-- R141: the state in which the early mark finds the cycle it cuts: the mark fault counted, the
position at the bit, and the claim-active flag of that cycle. -/
def State.reachCut (s : State) (bit : Fin 512) (claimStart : Level) : State :=
  let t := s.countMarkFault
  t.setLine { t.line with
    position := .bit bit, claimActive := s.cutClaimActive bit claimStart }

/-- R91, R129: the cut as the end of the cycle for the hold-offs; a mark in the tail is no further end. -/
def State.cutHoldOffs (s : State) : State :=
  if s.line.point = .verdict then s else s.runHoldOffs

/-- R91: the cut as the end of the cycle for the stall count; a mark in the tail is no further end. -/
def State.cutStall (s : State) : State :=
  if s.line.point = .verdict then s else s.stallStep

/-- R91, R112: a cut that takes an acquiring station into DOUBT is a cycle more for its stall count, which DOUBT
then keeps (R76); a mark in the tail is no further end. The doubt comes before the join stall that the count would
bring (DESIGN CHOICE, assumption 7). -/
def State.doubtAtCut (s : State) : State :=
  (if s.acquiring && s.line.point != .verdict then s.countStall else s).enterDoubt .markFault

/-- R141, R131, R112: what the cut does before the new cycle begins: doubt when the claim segment was
not idle, else the end of the cycle for the stall count and of the message in flight. -/
def State.cutCycle (s : State) (bit : Fin 512) (claimStart : Level) : State :=
  let t := (s.reachCut bit claimStart).cutHoldOffs
  if t.line.claimActive && t.canDoubt then t.doubtAtCut else t.dropFlight.cutStall

/-- R136, R141: a mark at the bit given, early unless the station's own count makes it timely. -/
def State.takeEarlyMark (s : State) (bit : Fin 512) (claimStart : Level) : State :=
  if s.markIsEarly then (s.cutCycle bit claimStart).beginCycle else s.beginCycle

/-- Whether a claim of the cycle in progress has not reached its verdict point. By the station's own
count a mark is then early (R141), whatever it is called. -/
def State.claimUnjudged (s : State) : Bool :=
  s.markIsEarly && s.line.claimActive && s.line.point != .verdict

/-- R136: a timely mark, PLM sampled high after a low sample: the row is the mark taken. A cycle whose points
were not made because nothing was claimed in it has simply run out; one whose claim is unjudged is cut at its
present bit (R141). -/
def State.takeTimelyMark (s : State) : State :=
  if s.claimUnjudged then (s.cutCycle 499 .recessive).beginCycle else s.beginCycle

/-- A mark of either kind. -/
def State.takeMark (s : State) (m : Mark) : State :=
  match m with
  | .timely => s.takeTimelyMark
  | .early bit claimStart => s.takeEarlyMark bit claimStart

/-- The state in which the expiry pass of a mark finds the zone table. -/
def State.beforePass (s : State) (m : Mark) : State :=
  match m with
  | .timely => if s.claimUnjudged then s.cutCycle 499 .recessive else s
  | .early bit claimStart => if s.markIsEarly then s.cutCycle bit claimStart else s

/-- R142: a mark is lost: counted, doubt when the claim-active flag is set, nothing in flight any more,
and WAITING from there on. The cycle is over, so that a clean slot of it that no stance followed sets the run count
to 0 (R145). It is the sixteenth sample after bit 511 that finds PLM low. The row LOST_MARK names
that sample from any position, the bit times before it being left out; a station that keeps count of the bit
times comes to it by itself (`bitTime`). In WAITING no position is known and none can be lost
(assumption 27). -/
def State.loseMark (s : State) : State :=
  if s.line.position = .waiting then s
  else
    let t := s.countMarkFault
    let u := if t.line.claimActive && t.canDoubt then t.enterDoubt .markFault else t.dropFlight
    u.setLine { u.line with
      position := .waiting, slotDrive := none, runCount := u.runAtEnd, cleanPending := false
      heard := [] }

/-- CYCLE_MARK (R136). -/
def execCycleMark (s : State) : Host.Outcome State Fault Refusal :=
  .next (s.unlessReset s.takeTimelyMark)

/-- EARLY_MARK (R141). -/
def execEarlyMark (bit : Fin 512) (claimStart : Level) (s : State) :
    Host.Outcome State Fault Refusal :=
  .next (s.unlessReset (s.takeEarlyMark bit claimStart))

/-- LOST_MARK (R142). -/
def execLostMark (s : State) : Host.Outcome State Fault Refusal :=
  .next (s.unlessReset s.loseMark)

end Sys2Proof.Machine
end

