-- ==== Sys2Proof/Machine/StatusPoint.lean ====
section
/-! DEFINITION. The status point: peer watch, mismatch counts, listening check, seeking duty, eviction
candidates and divergence (sections 3.3 to 3.5, 5.2, 5.3). -/

namespace Sys2Proof.Machine

/-- R68: a peer record brought up to date with its slot of the cycle. -/
def watchSlot (p : PeerRecord) (w : BitVec 16) : PeerRecord :=
  if slotPresent w then
    { p with lastMode := some (slotMode w), lastCounter := slotCounter w, silence := 0 }
  else { p with lastMode := none, silence := saturate Config.silenceMax p.silence }

/-- R68: whether the local state keeps the peer watch: not in OFFLINE and FAULTED. -/
def State.watchesPeers (s : State) : Bool :=
  s.ownsBits

/-- R68: the peer watch and the slot-derived set of the status point. -/
def State.watchSlots (s : State) (slots : Slots) : State :=
  s.setMonitor { s.monitor with
    peers := tabulate 16 (fun a => watchSlot (s.monitor.peers.get a) (slotOf slots a))
    slotDerived := clusterSlots slots }

/-- R69, Table 3-5: whether a slot mode agrees with a role that is compared. -/
def modeAgrees (r : Role) (m : SlotMode) : Bool :=
  match r with
  | .member => m == .synced
  | .joining => m == .joining
  | .queued => m == .joining
  | .absent => true

/-- R69: the mismatch count of a record after its slot of the cycle, for its role. -/
def mismatchSlot (r : Role) (p : PeerRecord) (w : BitVec 16) : Nat :=
  if r = .absent then 0
  else if slotPresent w then
    if modeAgrees r (slotMode w) then 0 else saturate Config.mismatchMax p.mismatch
  else p.mismatch

/-- R69: whether the station holds a roster that it applies. -/
def State.appliesRoster (s : State) : Bool :=
  s.holdsRoster && s.station != .doubt

/-- R69: the mismatch counts of the status point. -/
def State.countSlots (s : State) (slots : Slots) : State :=
  if s.appliesRoster then
    s.setMonitor { s.monitor with
      peers := tabulate 16 (fun a =>
        { s.monitor.peers.get a with
          mismatch := mismatchSlot (s.roster.role a) (s.monitor.peers.get a) (slotOf slots a) }) }
  else s.setMonitor s.monitor.noMismatch

/-! ## The listening check -/

/-- R99: a cycle of the listening check. Where a STOP and a START fall in one cycle whose own slot this station had
begun to drive, and bit times are stepped through, that slot is read absent (assumption 14). -/
def State.listenStep (s : State) (slots : Slots) : State :=
  match s.own with
  | some a =>
    if s.controller.listen < Config.listenCycles then
      if slotPresent (slotOf slots a) then s.enterFaulted .addressInUse
      else s.setController { s.controller with listen := s.controller.listen + 1 }
    else s
  | none => s

/-! ## Seeking -/

/-- R102: the formation count after a status point that sees no cluster slot. -/
def State.formationNext (s : State) : Nat :=
  saturate Config.formationMax s.controller.formation

/-- R102: the choice of the seeking duty. -/
def State.seekStep (s : State) : State :=
  if s.monitor.slotDerived = 0 then
    (s.setController { s.controller with formation := s.formationNext }).setSelector
      { s.selector with
        sync := if s.controller.config.formationWait ≤ s.formationNext then some .found else none }
  else
    (s.setController { s.controller with formation := 0 }).setSelector
      { s.selector with sync := some .joinReq }

/-! ## Eviction -/

/-- R70: the reason for which an address is a candidate, if it is one. -/
def State.candidate (s : State) (a : Addr) : Option EvictReason :=
  if s.isOwn a || s.roster.role a == .absent || (s.monitor.peers.get a).refused then none
  else if s.controller.config.silenceLimit ≤ (s.monitor.peers.get a).silence then some .silent
  else if Config.mismatchLimit ≤ (s.monitor.peers.get a).mismatch then some .mismatch
  else none

/-- R70: the EVICT duty of a status point, naming the lowest candidate. -/
def State.evictDuty (s : State) : Option UrgentDuty :=
  match lowest (fun a => (s.candidate a).isSome) with
  | some a => (s.candidate a).map (fun reason => .evict a reason)
  | none => none

/-- R70: the EVICT duty formed anew. -/
def State.formEvict (s : State) : State :=
  s.setSelector { s.selector with urgent := s.evictDuty }

/-! ## Divergence -/

/-- R73: whether an address is one of the n compared. -/
def State.compared (s : State) (slots : Slots) (a : Addr) : Bool :=
  !s.isOwn a && s.roster.role a == .member && slotPresent (slotOf slots a)
    && slotMode (slotOf slots a) == .synced

/-- R73: n, the number of addresses compared. -/
def State.comparedCount (s : State) (slots : Slots) : Nat :=
  countAddrs (s.compared slots)

/-- R73: k, the number of those whose counter differs from this station's. -/
def State.differingCount (s : State) (slots : Slots) : Nat :=
  countAddrs (fun a => s.compared slots a
    && slotCounter (slotOf slots a) != s.roster.counter.extractLsb' 0 12)

/-- R73: whether the cycle is divergent. -/
def State.divergent (s : State) (slots : Slots) : Bool :=
  1 ≤ s.comparedCount slots && s.comparedCount slots ≤ 2 * s.differingCount slots

/-- R73: the divergence count after the status point. -/
def State.divergenceNext (s : State) (slots : Slots) : Nat :=
  if s.divergent slots then s.monitor.divergence + 1
  else if s.comparedCount slots = 0 then s.monitor.divergence
  else 0

/-- R73, R70: a SYNCED station's divergence check, and its EVICT duty when it does not doubt. -/
def State.syncedStep (s : State) (slots : Slots) : State :=
  if Config.divergenceLimit ≤ s.divergenceNext slots then
    (s.setMonitor { s.monitor with divergence := s.divergenceNext slots }).enterDoubt .divergence
  else (s.setMonitor { s.monitor with divergence := s.divergenceNext slots }).formEvict

/-! ## The point -/

/-- The first half of the status point: the point made, the own slot read back (R144), and the peer
watch and mismatch counts brought up to date. -/
def State.readStatus (s : State) (slots : Slots) : State :=
  let t := (s.makePoint .status 255).readBackSlot slots
  if t.watchesPeers then (t.watchSlots slots).countSlots slots else t

/-- The second half: what the local state does at the status point (R99, R102, R70, R73). -/
def State.actOnStatus (s : State) (slots : Slots) : State :=
  match s.station with
  | .standby => s.listenStep slots
  | .seeking => s.seekStep
  | .synced => s.syncedStep slots
  | .offline => s
  | .joining => s
  | .leaving => s
  | .doubt => s
  | .faulted => s

/-- R68: the status point, made once in a cycle and never in WAITING. -/
def State.takeStatus (s : State) (slots : Slots) : State :=
  if s.canMake .status then (s.readStatus slots).actOnStatus slots else s

/-- STATUS_POINT (R68). -/
def execStatusPoint (slots : Slots) (s : State) : Host.Outcome State Fault Refusal :=
  .next (s.unlessReset (s.takeStatus slots))

end Sys2Proof.Machine
end

