-- ==== Sys2Proof/Machine/Contention.lean ====
section
/-! DEFINITION. The Transmit Selector: the choice at the selection point, the claim segment and the
readback of the message segment (Chapter 6). -/

namespace Sys2Proof.Machine

/-! ## Duties formed at the selection point -/

/-- R77: the SNAP duty of a SYNCED donor. -/
def State.snapDuty (s : State) : Option SyncDuty :=
  match s.roster.donor, s.roster.joiner, s.roster.progress with
  | some d, some _, some p =>
    if s.isOwn d && s.selector.snapHold == 0 then some (.snap p) else none
  | _, _, _ => none

/-- R117, Table 6-2: the duties formed at the selection point. -/
def State.formDuties (s : State) : State :=
  match s.station with
  | .synced => s.setSelector { s.selector with sync := s.snapDuty }
  | .leaving => s.setSelector { s.selector with urgent := some (.leave .voluntary), sync := none }
  | .doubt => s.setSelector { s.selector with urgent := some (.leave .doubt), sync := none }
  | .offline => s
  | .standby => s
  | .seeking => s
  | .joining => s
  | .faulted => s

/-! ## The choice -/

/-- R119: whether an entry names the zone. -/
def namesZone (z : ZoneId) (e : SendEntry) : Bool :=
  e.request.zone? == some z

/-- R119: the oldest eligible URGENT entry, given the entries already passed, which are older. -/
def eligibleEntry (older entries : List SendEntry) : Option SendEntry :=
  match entries with
  | [] => none
  | e :: rest =>
    match e.request.cls, e.request.zone? with
    | .urgent, some z =>
      if older.any (namesZone z) then eligibleEntry (older ++ [e]) rest else some e
    | _, _ => eligibleEntry (older ++ [e]) rest

/-- R118 step 2: the URGENT entry offered, in SYNCED only. -/
def State.urgentEntry (s : State) : Option SendEntry :=
  if s.station = .synced then eligibleEntry [] s.sendQueue.entries else none

/-- R118 step 3: the hold-off of the SYNC duty. -/
def State.syncHold (s : State) : Nat :=
  if s.station = .seeking then s.selector.seekHold else s.selector.snapHold

/-- R118 step 3: the SYNC duty offered. -/
def State.syncOffer (s : State) : Option SyncDuty :=
  if s.syncHold = 0 then s.selector.sync else none

/-- R118 step 4: the NORMAL entry offered, in SYNCED only: the oldest entry of the queue. -/
def State.normalEntry (s : State) : Option SendEntry :=
  match s.sendQueue.entries with
  | e :: _ =>
    if s.station = .synced ∧ e.request.cls = .normal ∧ s.selector.served = false then some e
    else none
  | [] => none

/-- R118: the local states that choose a message. -/
def StationState.chooses (st : StationState) : Bool :=
  st == .seeking || st == .synced || st == .leaving || st == .doubt

/-- R118: the choice: URGENT duty, URGENT entry, SYNC duty, NORMAL entry. -/
def State.choice (s : State) : Option Source :=
  if s.station.chooses then
    match s.selector.urgent, s.urgentEntry, s.syncOffer, s.normalEntry with
    | some d, _, _, _ => some (.urgent d)
    | none, some e, _, _ => some (.entry e.tag)
    | none, none, some d, _ => some (.sync d)
    | none, none, none, some e => some (.entry e.tag)
    | none, none, none, none => none
  else none

/-! ## The message formed -/

/-- R78: the block of an index, from the roster and the zone table as they stand. -/
def State.formBlock (s : State) (index : Nat) : SnapBlock :=
  { index := index
    content :=
      if h : 1 ≤ index ∧ index ≤ 64 then zoneBlock (s.zones.get ⟨index - 1, by omega⟩)
      else rosterBlock s.roster }

/-- The kind of the message of a source (R116). -/
def State.sourceKind (s : State) (source : Source) : Kind :=
  match source with
  | .urgent (.leave _) => .leave
  | .urgent (.evict _ _) => .evict
  | .sync .found => .found
  | .sync .joinReq => .joinReq
  | .sync (.snap _) => .snap
  | .entry tag =>
    match s.sendQueue.find tag with
    | some e => e.request.kind
    | none => .note

/-- R121: the payload of the message of a source. -/
def State.sourcePayload (s : State) (source : Source) : List Byte :=
  match source with
  | .urgent (.leave reason) => [natByte reason.code]
  | .urgent (.evict target reason) => [natByte target.val, natByte reason.code]
  | .sync .found => []
  | .sync .joinReq => []
  | .sync (.snap index) => natByte index :: (s.formBlock index).content
  | .entry tag =>
    match s.sendQueue.find tag with
    | some e => e.request.payload
    | none => []

/-- R121: the message of a source, formed whole at the selection point. -/
def State.formFlight (s : State) (own : Addr) (source : Source) : InFlight :=
  { source := source
    kind := s.sourceKind source
    cls := (s.sourceKind source).cls
    message := formMessage (s.sourceKind source) own s.basis (s.sourcePayload source)
    claim := .contending
    mismatchFrom := none }

/-- R126: the entry of a source becomes IN_FLIGHT. -/
def Source.launch (source : Source) (q : SendQueue) : SendQueue :=
  match source with
  | .entry tag => q.change tag (fun e => { e with state := .inFlight })
  | .urgent _ => q
  | .sync _ => q

/-- R76: the block being sent, when the source is a SNAP duty. -/
def State.sourceBlock (s : State) (source : Source) : Option SnapBlock :=
  match source with
  | .sync (.snap index) => some (s.formBlock index)
  | .sync .found => none
  | .sync .joinReq => none
  | .urgent _ => none
  | .entry _ => none

/-- R121, R122, R126, R133: the chosen message in flight; the start bit driven sets the claim-active
flag. -/
def State.offer (s : State) (own : Addr) (source : Source) : State :=
  { s with
    selector := { s.selector with inFlight := some (s.formFlight own source) }
    snapshot := { s.snapshot with sending := s.sourceBlock source }
    sendQueue := source.launch s.sendQueue
    line := { s.line with claimActive := true } }

/-- R118: the message chosen, if any, offered. A station with no configured address is OFFLINE and
chooses none. -/
def State.offerChoice (s : State) : State :=
  match s.choice, s.own with
  | some source, some own => s.offer own source
  | _, _ => s

/-- R118: the selection point, made once in a cycle and never in WAITING. -/
def State.takeSelection (s : State) : State :=
  if s.canMake .selection then (s.makePoint .selection 260).formDuties.offerChoice else s

/-- SELECTION_POINT (R118). -/
def execSelectionPoint (s : State) : Host.Outcome State Fault Refusal :=
  .next (s.unlessReset s.takeSelection)

/-! ## The claim segment -/

/-- R124: an entry whose claim ended without an attempt: WAITING again, or in LEAVING withdrawn. -/
def State.returnEntry (s : State) (tag : Byte) : State :=
  if s.station = .leaving then s.endEntry tag .withdrawn none none none
  else s.setSendQueue (s.sendQueue.change tag (fun e => { e with state := .waiting }))

/-- R123, R124: the message out of this cycle and its source back where it came from. A duty stands. -/
def State.giveUpClaim (s : State) : State :=
  match s.selector.inFlight with
  | some m =>
    let t := s.setSelector { s.selector with inFlight := none }
    match m.source with
    | .entry tag => t.returnEntry tag
    | .urgent _ => t
    | .sync _ => t
  | none => s

/-- R124: the claim segment lost. -/
def State.loseClaim (s : State) : State :=
  s.countArbitrationLoss.giveUpClaim

/-- R123: a claim bit driven dominant and read recessive. -/
def State.faultClaim (s : State) : State :=
  s.countMismatch.giveUpClaim

/-- R120, R122: the claim segment won; a NORMAL win sets the served flag. -/
def State.winClaim (s : State) (m : InFlight) : State :=
  s.setSelector { s.selector with
    inFlight := some { m with claim := .won }
    served := s.selector.served || m.cls == .normal }

/-- R122: the message in flight while it contends. -/
def State.contending (s : State) : Option InFlight :=
  match s.selector.inFlight with
  | some m => if m.claim = .contending then some m else none
  | none => none

/-- R122 to R124: how a contender fares in the segment as read. -/
def State.judgeClaim (s : State) (read : ClaimRead) : State :=
  match s.contending, s.own with
  | some m, some own =>
    match contend (drivenClaim m.cls own) (readClaim read) with
    | .won => s.winClaim m
    | .lost => s.loseClaim
    | .fault => s.faultClaim
  | _, _ => s

/-- R122, R133, R140: what the Verdict Unit and the Line Interface take from the segment as read. -/
def State.holdClaim (s : State) (read : ClaimRead) : State :=
  { s with
    verdict :=
      { s.verdict with
        claim := some (if read.start = .dominant then .winner read.cls read.addr else .idle) }
    line := { s.line with claimActive := s.line.claimActive || read.start == .dominant } }

/-- R122, R140: the end of the address field. After an idle segment no stance is taken (R35), so that a clean
slot was the last of the cycle's owned bits (R145). -/
def State.takeClaim (s : State) (read : ClaimRead) : State :=
  if s.canMake .claim then
    let t := ((s.makePoint .claim 266).holdClaim read).judgeClaim read
    if read.start = .recessive then t.settleRun else t
  else s

/-- CLAIM_SEGMENT (R122). -/
def execClaimSegment (read : ClaimRead) (s : State) : Host.Outcome State Fault Refusal :=
  .next (s.unlessReset (s.takeClaim read))

/-- The bit of the line cycle of a place in the claim segment (Table 11-1). -/
def claimLineBit (bit : Fin 7) : Fin 512 :=
  ⟨260 + bit.val, by omega⟩

/-- R124: the losing bit: a bit the contender drives recessive, read dominant. A bit it drives
dominant cannot lose. -/
def State.loseAt (s : State) (bit : Fin 7) : State :=
  match s.contending, s.own with
  | some m, some own =>
    if claimBitAt m.cls own bit = some true then (s.misreadBit (claimLineBit bit)).loseClaim else s
  | _, _ => s

/-- ARBITRATION_LOSS (R124). -/
def execArbitrationLoss (bit : Fin 7) (s : State) : Host.Outcome State Fault Refusal :=
  .next (s.unlessReset (s.loseAt bit))

/-- R123: the faulting bit: a bit the contender drives dominant, read recessive. A bit it drives
recessive cannot fault. -/
def State.faultAt (s : State) (bit : Fin 7) : State :=
  match s.contending, s.own with
  | some m, some own =>
    if claimBitAt m.cls own bit = some false then (s.misreadBit (claimLineBit bit)).faultClaim else s
  | _, _ => s

/-- CLAIM_READBACK_FAULT (R123). -/
def execClaimReadbackFault (bit : Fin 7) (s : State) : Host.Outcome State Fault Refusal :=
  .next (s.unlessReset (s.faultAt bit))

/-! ## The message segment's readback -/

/-- R125: the first mismatch of the message segment at the bit given. -/
def State.mismatchMessage (s : State) (m : InFlight) (bit : Fin 160) : State :=
  s.countMismatch.setSelector
    { s.selector with inFlight := some { m with mismatchFrom := some bit } }

/-- R125: the winner whose readback is still clean. -/
def State.cleanSender (s : State) : Option InFlight :=
  match s.selector.inFlight with
  | some m => if m.claim = .won ∧ m.mismatchFrom = none then some m else none
  | none => none

/-- The bit of the line cycle of a place in the message segment (Table 11-1). -/
def messageLineBit (bit : Fin 160) : Fin 512 :=
  ⟨272 + bit.val, by omega⟩

/-- R125: a mismatch found while the segment is being sent. -/
def State.mismatchAt (s : State) (bit : Fin 160) : State :=
  match s.cleanSender with
  | some m =>
    if s.canMake .message then (s.misreadBit (messageLineBit bit)).mismatchMessage m bit else s
  | none => s

/-- MESSAGE_READBACK_MISMATCH (R125). -/
def execMessageReadbackMismatch (bit : Fin 160) (s : State) : Host.Outcome State Fault Refusal :=
  .next (s.unlessReset (s.mismatchAt bit))

end Sys2Proof.Machine
end

