-- ==== Sys2Proof/Machine/MessageSegment.lean ====
section
/-! DEFINITION. The end of the message segment: the intact test and the stance (sections 2.1 to 2.4). -/

namespace Sys2Proof.Machine

/-! ## The intact test -/

/-- R32, items 3 and 4: sender and class agree with the claim segment as read. -/
def claimAgrees (held : Option ClaimHeld) (k : Kind) (m : MessageBytes) : Bool :=
  match held with
  | some (.winner cls addr) => senderOf m == addr && k.cls.code == cls
  | some .idle => false
  | none => false

/-- R32, item 5, R189: at an acquiring station, the content of a SNAP is one a donor forms. -/
def contentAccepted (acquiring : Bool) (k : Kind) (m : MessageBytes) : Bool :=
  match bodyOf k (payloadOf m) with
  | .snap index content => !acquiring || snapContentValid index.toNat content
  | .found => true
  | .joinReq => true
  | .leave _ => true
  | .evict _ _ => true
  | .release _ => true
  | .cancel _ => true
  | .claim _ _ _ _ => true
  | .renew _ _ => true
  | .note _ _ _ => true

/-- R32: the intact test. -/
def State.intactTest (s : State) (m : MessageBytes) : Bool :=
  match kindOf m with
  | some k =>
    crcPasses m && claimAgrees s.verdict.claim k m && contentAccepted s.acquiring k m
  | none => false

/-! ## The stance -/

/-- R37, Table 2-4, R39: whether a SYNCED or LEAVING member objects. -/
def State.objects (s : State) (sender : Addr) (b : Body) : Bool :=
  match b with
  | .found => true
  | .joinReq => s.roster.role sender != .absent
  | .leave _ => s.roster.role sender == .absent || b.outOfRange sender
  | .evict target _ =>
    s.roster.role target == .absent || s.roster.role sender != .member || b.outOfRange sender
  | .claim zone _ _ _ =>
    s.roster.role sender != .member || b.outOfRange sender
      || (match zoneOf zone with
          | some z => zoneFlag s.policy.veto z && !s.isOwn sender
          | none => false)
  | .renew _ _ => s.roster.role sender != .member || b.outOfRange sender
  | .release _ => s.roster.role sender != .member || b.outOfRange sender
  | .cancel _ => s.roster.role sender != .member || b.outOfRange sender
  | .note _ _ _ => s.roster.role sender != .member || b.outOfRange sender
  | .snap index _ =>
    s.roster.donor != some sender || s.roster.joiner == none
      || s.roster.progress != some index.toNat

/-- R38: whether a kind's basis is checked. -/
def basisChecked (k : Kind) : Bool :=
  match k with
  | .found => false
  | .joinReq => false
  | .leave => false
  | .snap => true
  | .evict => true
  | .release => true
  | .cancel => true
  | .claim => true
  | .renew => true
  | .note => true

/-- R38: the basis check. -/
def State.basisPasses (s : State) (k : Kind) (basis : Byte) : Bool :=
  !basisChecked k || basis == s.basis

/-- Whether a NOTE destination reaches this station: its own address, or all members. -/
def State.isDestination (s : State) (destination : Byte) : Bool :=
  destination.toNat == Config.allMembers ||
    (match s.own with
     | some a => destination.toNat == a.val
     | none => false)

/-- R40: whether acceptance of a NOTE is withheld. -/
def State.withholds (s : State) (b : Body) : Bool :=
  match b with
  | .note destination _ _ => s.isDestination destination && s.events.free < Config.noteRoom
  | .found => false
  | .joinReq => false
  | .snap _ _ => false
  | .leave _ => false
  | .evict _ _ => false
  | .release _ => false
  | .cancel _ => false
  | .claim _ _ _ _ => false
  | .renew _ _ => false

/-- R36: the stance of a SYNCED or LEAVING member on an intact message. -/
def State.memberStance (s : State) (k : Kind) (m : MessageBytes) : Stance :=
  if s.objects (senderOf m) (bodyOf k (payloadOf m)) then .object
  else if s.basisPasses k (basisOf m) && !s.withholds (bodyOf k (payloadOf m)) then .accept
  else .silent

/-- R42: the kinds a station in DOUBT accepts. -/
def doubtAccepts (k : Kind) : Bool :=
  k == .leave || k == .evict

/-- R36, R41, R42, R43: the stance on the message as read and tested, in each local state. A station that came
to DOUBT by divergence at the status point of the same cycle takes the stance of R42 already in that cycle, as R42
has it for any station in DOUBT; R113 and R73 name the next cycle and no stance for the present one (DESIGN
CHOICE, assumption 33). -/
def State.stanceOn (s : State) (m : MessageBytes) (intact : Bool) : Stance :=
  match s.station with
  | .offline => .notTaken
  | .standby => .notTaken
  | .seeking => .notTaken
  | .faulted => .notTaken
  | .joining => if intact then .accept else .silent
  | .synced =>
    match kindOf m with
    | some k => if intact then s.memberStance k m else .silent
    | none => .silent
  | .leaving =>
    match kindOf m with
    | some k =>
      if intact then (if s.ownRole = .member then s.memberStance k m else .accept) else .silent
    | none => .silent
  | .doubt =>
    match kindOf m with
    | some k => if intact && doubtAccepts k then .accept else .silent
    | none => .silent

/-- R35: whether a message followed the claim segment, so that a stance is taken on it. -/
def State.claimHeldWinner (s : State) : Bool :=
  match s.verdict.claim with
  | some (.winner _ _) => true
  | some .idle => false
  | none => false

/-- R34: the stance taken, its verdict bits owned from there on (R144, R145). -/
def State.takeStance (s : State) (m : MessageBytes) (intact : Bool) : State :=
  if s.claimHeldWinner then
    match s.stanceOn m intact with
    | .notTaken => s
    | .accept => s.setVerdict { s.verdict with stance := .accept }
    | .object => s.setVerdict { s.verdict with stance := .object }
    | .silent => s.setVerdict { s.verdict with stance := .silent }
  else s

/-- R125: the winner's readback of the whole segment. -/
def State.readBackMessage (s : State) (m : MessageBytes) : State :=
  match s.cleanSender with
  | some f =>
    match messageMismatch f.message m with
    | some bit => s.mismatchMessage f bit
    | none => s
  | none => s

/-- R133, R140, R32: the receive register filled, the intact test made and its failure counted. -/
def State.receive (s : State) (m : MessageBytes) : State :=
  let t := s.setLine { s.line with receive := some m, intact := some (s.intactTest m) }
  if s.intactTest m then t else t.countCrcError

/-- R140: the end of the message segment. A cycle whose claim-active flag is clear has none examined. -/
def State.takeMessage (s : State) (m : MessageBytes) : State :=
  if s.canMake .message then
    let t := s.makePoint .message 431
    if t.line.claimActive then
      ((t.readBackMessage m).receive m).takeStance m (t.intactTest m)
    else t
  else s

/-- MESSAGE_SEGMENT (R140). -/
def execMessageSegment (bytes : MessageBytes) (s : State) : Host.Outcome State Fault Refusal :=
  .next (s.unlessReset (s.takeMessage bytes))

end Sys2Proof.Machine
end

