-- ==== Sys2Proof/Machine/Commit.lean ====
section
/-! DEFINITION. What a committed message does at the verdict point: roster, zone table, snapshot,
sender's outcome and delivery (sections 2.7, 3.2, 4.4 to 4.6, 5.4 to 5.6). -/

namespace Sys2Proof.Machine

/-! ## The message of the cycle -/

/-- The message a station decides on: its kind when it is known, its sender and its fields. -/
structure CycleMessage where
  kind   : Option Kind
  sender : Addr
  body   : Option Body
  deriving DecidableEq, Repr

/-- The message in 20 bytes, its sender being given. -/
def cycleMessageOf (sender : Addr) (m : MessageBytes) : CycleMessage :=
  { kind := kindOf m, sender := sender
    body := (kindOf m).map (fun k => bodyOf k (payloadOf m)) }

/-- The sender the claim segment names. -/
def State.claimSender (s : State) : Addr :=
  match s.verdict.claim with
  | some (.winner _ addr) => addr
  | some .idle => 0
  | none => 0

/-- The message this station sent, when it won the claim segment. -/
def State.sentMessage (s : State) : Option MessageBytes :=
  match s.selector.inFlight with
  | some f => if f.claim = .won then some f.message else none
  | none => none

/-- R47: the message a station that won falls back on where it read its own damaged: only in SEEKING and DOUBT,
where the message is known to be its own and of the kind it sent. In SYNCED, LEAVING and JOINING the sender does not
decide on the message it meant to send (R32). -/
def State.knownMessage (s : State) : Option MessageBytes :=
  if s.station = .seeking ∨ s.station = .doubt then s.sentMessage else none

/-- R32, R44, R47: the message whose required set the station uses: the message as it stands on the line, at its
sender too, but for a SEEKING or DOUBT sender that read its own damaged, which knows the message it sent. -/
def State.cycleMessage (s : State) : CycleMessage :=
  match s.line.receive, s.line.intact, s.knownMessage with
  | some m, some true, _ => cycleMessageOf s.claimSender m
  | _, _, some sent => cycleMessageOf (senderOf sent) sent
  | some m, _, none => cycleMessageOf s.claimSender m
  | none, _, none => { kind := none, sender := s.claimSender, body := none }

/-! ## Zone effects -/

/-- R50 step 2, R16: the zone effect of a message, for the roster before it; a removal is handed on only
for a station with a role (R62). A CLAIM whose mode code is neither EXCLUSIVE nor SHARED draws an objection (R33,
R37) and has no rule of its own where it commits all the same: the model changes no entry (DESIGN CHOICE,
assumption 37). -/
def zoneEffect (r : Roster) (sender : Addr) (b : Body) (z : ZoneId) (e : ZoneEntry) : ZoneChange :=
  match b with
  | .claim zone mode wait d =>
    match LeaseMode.ofCode mode.toNat with
    | some m => if zoneOf zone = some z then claimZone e sender m d (wait != 0) else unchangedZone e
    | none => unchangedZone e
  | .renew zone d => if zoneOf zone = some z then renewZone e sender d else unchangedZone e
  | .release zone => if zoneOf zone = some z then releaseZone e sender else unchangedZone e
  | .cancel zone => if zoneOf zone = some z then cancelZone e sender else unchangedZone e
  | .leave _ => if r.role sender = .absent then unchangedZone e else removeFromZone e sender
  | .evict target _ => if r.role target = .absent then unchangedZone e else removeFromZone e target
  | .found => unchangedZone e
  | .joinReq => unchangedZone e
  | .snap _ _ => unchangedZone e
  | .note _ _ _ => unchangedZone e

/-- R50 step 1: the membership effect of a message other than the station's own FOUND. -/
def rosterEffect (r : Roster) (sender : Addr) (b : Body) : Roster :=
  match b with
  | .joinReq => r.applyJoinReq sender
  | .snap index _ => r.applySnap index.toNat
  | .leave _ => r.remove sender
  | .evict target _ => r.remove target
  | .found => r
  | .claim _ _ _ _ => r
  | .renew _ _ => r
  | .release _ => r
  | .cancel _ => r
  | .note _ _ _ => r

/-- R71: the refused marks of the addresses whose role a commit changed are cleared. -/
def clearRefused (m : Monitor) (before after : Roster) : Monitor :=
  { m with
    peers := tabulate 16 (fun a =>
      if before.role a = after.role a then m.peers.get a
      else { m.peers.get a with refused := false }) }

/-- R57, R50 step 1: the counter advance and the membership effect. -/
def State.commitRoster (s : State) (sender : Addr) (b : Body) : State :=
  (s.setRoster (rosterEffect s.roster.advance sender b)).setMonitor
    (clearRefused s.monitor s.roster (rosterEffect s.roster.advance sender b))

/-! ## The sender's outcome -/

/-- R51: the outcome of a committed NOTE at its sender. A destination of 17 or more, which draws an objection
(R37), has no rule of its own where it commits all the same: the model gives NO_DEST (DESIGN CHOICE,
assumption 38). -/
def State.noteOutcome (s : State) (destination : Byte) : RequestOutcome :=
  if destination.toNat = Config.allMembers then .delivered
  else
    match addrOf destination with
    | some a => if s.roster.role a = .member then .delivered else .noDest
    | none => .noDest

/-- The outcome of a message that names a zone, read from the entry before the application. A CLAIM of a mode code
that stands for no mode has none (DESIGN CHOICE, assumption 37). -/
def zoneOutcome (e : ZoneEntry) (sender : Addr) (b : Body) : Option ZoneOutcome :=
  match b with
  | .claim _ mode wait _ =>
    (LeaseMode.ofCode mode.toNat).map (fun m => claimOutcome e sender m (wait != 0))
  | .renew _ _ => some (renewOutcome e sender)
  | .release _ => some (releaseOutcome e sender)
  | .cancel _ => some (cancelOutcome e sender)
  | .found => none
  | .joinReq => none
  | .snap _ _ => none
  | .leave _ => none
  | .evict _ _ => none
  | .note _ _ _ => none

/-- The zone a message names. -/
def Body.zone? (b : Body) : Option ZoneId :=
  match b with
  | .claim zone _ _ _ => zoneOf zone
  | .renew zone _ => zoneOf zone
  | .release zone => zoneOf zone
  | .cancel zone => zoneOf zone
  | .found => none
  | .joinReq => none
  | .snap _ _ => none
  | .leave _ => none
  | .evict _ _ => none
  | .note _ _ _ => none

/-- R11, R51: the outcome of a committed host request, from the zone table before the application. -/
def State.requestOutcome (s : State) (before : ZoneTable) (sender : Addr) (b : Body) :
    Option ZoneOutcome :=
  match b, b.zone? with
  | .note destination _ _, _ => some (plainOutcome (s.noteOutcome destination))
  | _, some z => zoneOutcome (before.get z) sender b
  | _, none => none

/-- R155, R156: the own waits list with a record added; a zone has one record at most. -/
def addWait (waits : List OwnWait) (w : OwnWait) : List OwnWait :=
  waits.filter (fun x => x.zone != w.zone) ++ [w]

/-- R150, R156: the own waits list of an ended entry: a record added on QUEUED, the zone's record
removed on CANCELLED. Only a CLAIM with the wait flag is queued (R10, R155). -/
def waitsOnOutcome (waits : List OwnWait) (e : SendEntry) (o : RequestOutcome) : List OwnWait :=
  match e.request, o with
  | .claim z m w _, .queued =>
    if w = 0 then waits else addWait waits { zone := z, tag := e.tag, mode := m }
  | .cancel z, .cancelled => waits.filter (fun w => w.zone != z)
  | _, _ => waits

/-- R150: a committed request ended at its sender with the owning block's outcome. -/
def State.endCommitted (s : State) (tag : Byte) (o : ZoneOutcome) : State :=
  match s.sendQueue.find tag with
  | some e =>
    (s.setSendQueue
        { (s.sendQueue.drop tag) with
          ownWaits := waitsOnOutcome s.sendQueue.ownWaits e o.outcome }).place
      (e.result o.outcome o.position o.set (some s.roster.counter))
  | none => s

/-- R127, R130, R79: a committed duty ends. -/
def State.endDuty (s : State) (source : Source) : State :=
  match source with
  | .urgent _ => s.setSelector { s.selector with urgent := none }
  | .sync _ => s.setSelector { s.selector with sync := none }
  | .entry _ => s

/-- R50 step 4: the sender's outcome of a message decided committed. Where the line carried another intact
message of the same address than the one this station sent (R132), the entry that won takes the outcome of the
message on the line, reported under the entry's own kind and zone; where that message has none (an EVICT, a
LEAVE, a SNAP), the entry stays, WAITING again, with no attempt counted (DESIGN CHOICE, assumption 35). A duty that
won ends at the commit of such a message too (DESIGN CHOICE, assumption 39). -/
def State.senderCommitted (s : State) (before : ZoneTable) (sender : Addr) (b : Body) : State :=
  match s.selector.inFlight with
  | some f =>
    if f.claim = .won then
      match f.source, s.requestOutcome before sender b with
      | .entry tag, some o => s.endCommitted tag o
      | .entry _, none => s
      | .urgent d, _ => s.endDuty (.urgent d)
      | .sync d, _ => s.endDuty (.sync d)
    else s
  | none => s

/-- R51, R170: the delivery of a committed NOTE at this station. A length of 0, or of 13 or more, draws an
objection (R37) and has no rule of its own where the NOTE commits all the same: the model places the data bytes
read, none or twelve, and their number as the length (DESIGN CHOICE, assumption 38). -/
def State.deliver (s : State) (sender : Addr) (b : Body) : State :=
  match b with
  | .note destination _ data =>
    if s.certain && s.isDestination destination then s.place (.note sender data) else s
  | .found => s
  | .joinReq => s
  | .snap _ _ => s
  | .leave _ => s
  | .evict _ _ => s
  | .release _ => s
  | .cancel _ => s
  | .claim _ _ _ _ => s
  | .renew _ _ => s

/-- R49, R50: the application of a committed message: counter advance, roster, zone table, sender's
outcome, the reports of the zones, delivery. -/
def State.applyMessage (s : State) (sender : Addr) (b : Body) : State :=
  let changes := s.zoneChanges (zoneEffect s.roster sender b)
  let t := (s.commitRoster sender b).setZones (changedEntries changes)
  ((t.senderCommitted s.zones sender b).reportZones s.zones changes).deliver sender b

/-! ## A joiner's commits -/

/-- R84: the roster block loaded and its own commit applied: one counter advance from the block's value
and progress from 0 to 1. The content has passed the test of R189; a content that has not is not
loaded. -/
def State.loadRoster (s : State) (content : List Byte) : State :=
  if rosterBlockValid content then
    { s with
      roster := (blockRoster content).advance.applySnap 0
      snapshot := { s.snapshot with loaded := 1 } }
  else s

/-- The zone a block of an index carries (R81). -/
def blockZone (index : Nat) : Option ZoneId :=
  if h : 1 ≤ index ∧ index ≤ 64 then some ⟨index - 1, by omega⟩ else none

/-- R85: the zone entry of a block replaced whole. The content has passed the test of R189; a content
that has not is not loaded. -/
def State.loadZone (s : State) (index : Nat) (content : List Byte) : State :=
  match blockZone index with
  | some z =>
    if zoneBlockValid content then s.setZones (put s.zones z (blockEntry content)) else s
  | none => s

/-- R88, R94: the joiner whose role a SNAP has made MEMBER: SYNCED from JOINING; in LEAVING the counts
of the transfer become 0. -/
def State.completeTransfer (s : State) : State :=
  if s.ownRole = .member then
    match s.station with
    | .joining => s.enterSynced .synchronised
    | .leaving => s.setSnapshot { s.snapshot with loaded := 0, stall := 0 }
    | .offline => s
    | .standby => s
    | .seeking => s
    | .synced => s
    | .doubt => s
    | .faulted => s
  else s

/-- R85, R88: the next block of the joiner's own transfer: load, then apply. -/
def State.nextBlock (s : State) (sender : Addr) (index : Nat) (content : List Byte) : State :=
  let t := s.loadZone index content
  ((t.setSnapshot { t.snapshot with loaded := index + 1 }).commitRoster sender
    (.snap (natByte index) content)).completeTransfer

/-- R89: a repeat of the block loaded last. -/
def State.repeatBlock (s : State) (index : Nat) (content : List Byte) : State :=
  if index = 0 then s.loadRoster content else s.loadZone index content

/-- R85, R89, R90, Table 4-6: a committed SNAP at a joiner whose own role is JOINING. -/
def State.ownTransfer (s : State) (sender : Addr) (index : Nat) (content : List Byte) : State :=
  if index = s.snapshot.loaded ∧ index ≤ Config.lastBlock then s.nextBlock sender index content
  else if index + 1 = s.snapshot.loaded then s.repeatBlock index content
  else s.enterDoubt .snapshotGap

/-- R87, R89, R90, Table 4-6: a committed SNAP at a queued station. -/
def State.otherTransfer (s : State) (sender : Addr) (index : Nat) (content : List Byte) : State :=
  if s.roster.progress = some index then s.commitRoster sender (.snap (natByte index) content)
  else if index = 0 ∧ s.roster.progress = some 1 then s.loadRoster content
  else s.enterDoubt .snapshotGap

/-- R83, Table 4-4: a committed SNAP at a joiner that holds no roster. -/
def State.firstBlock (s : State) (index : Nat) (content : List Byte) : State :=
  match s.own with
  | some a =>
    if index = 0 ∧ (blockRole content a = .joining ∨ blockRole content a = .queued) then
      s.loadRoster content
    else s
  | none => s

/-- R83 to R90: a committed SNAP at an acquiring station. -/
def State.joinerSnap (s : State) (sender : Addr) (index : Nat) (content : List Byte) : State :=
  if s.holdsRoster then
    if s.ownRole = .joining then s.ownTransfer sender index content
    else s.otherTransfer sender index content
  else s.firstBlock index content

/-- R64: whether a commit dissolved the roster: the last MEMBER of the roster before it is gone. -/
def Roster.dissolved (before after : Roster) : Bool :=
  before.donor.isSome && after.donor.isNone

/-- R64, R65: an acquiring station whose roster a commit dissolved leaves, whatever role the roster gave it. -/
def State.leaveDissolved (s : State) (before : Roster) : State :=
  if before.dissolved s.roster then
    match s.station with
    | .joining => s.backToSeeking .dissolved
    | .leaving => s.arriveStandby .dissolved
    | .offline => s
    | .standby => s
    | .seeking => s
    | .synced => s
    | .doubt => s
    | .faulted => s
  else s

/-- R86: a commit other than a SNAP at an acquiring station that holds a roster. -/
def State.joinerCommit (s : State) (sender : Addr) (b : Body) : State :=
  if s.holdsRoster then (s.applyMessage sender b).leaveDissolved s.roster else s

/-! ## Departures by a commit -/

/-- R111: a committed EVICT naming this station. A reason code that is neither SILENT nor MISMATCH draws an
objection of every member (R37), but a joiner and a station in DOUBT accept it (R41, R42); the spec names no last
eviction reason for it, and the model sets none (DESIGN CHOICE, assumption 32). -/
def State.evicted (s : State) (reason : Byte) : State :=
  (s.setController
      { s.controller with lastEviction := EvictReason.ofCode reason.toNat }).arriveStandby .evicted

/-- R50, R59, R106: the station's own FOUND committed. -/
def State.foundCommitted (s : State) (own : Addr) : State :=
  ((s.setRoster (Roster.cleared.found own)).setZones ZoneTable.cleared).enterSynced .formed

/-- A commit that neither removes this station nor is a SNAP, at a member or at an acquiring station. -/
def State.plainCommit (s : State) (sender : Addr) (b : Body) : State :=
  if s.acquiring then s.joinerCommit sender b else s.applyMessage sender b

/-- What a committed, intact message does at a station in a cluster state other than DOUBT. A committed LEAVE
that carries this station's address at a station not in LEAVING comes from another station with the same address
(R132); Table 5-4 gives LEFT from LEAVING and DOUBT only, and the model makes the same departure with reason LEFT,
the removed station being this one by its address (DESIGN CHOICE, assumption 34). Another message of its address that
commits in place of the LEAVE a LEAVING station won with leaves the local state as it stands (DESIGN CHOICE,
assumption 39). -/
def State.clusterCommit (s : State) (sender : Addr) (b : Body) : State :=
  match b with
  | .found => s
  | .leave _ => if s.isOwn sender then s.arriveStandby .left else s.plainCommit sender b
  | .evict target reason => if s.isOwn target then s.evicted reason else s.plainCommit sender b
  | .snap index content =>
    if s.acquiring then s.joinerSnap sender index.toNat content else s.applyMessage sender b
  | .joinReq => s.plainCommit sender b
  | .release _ => s.plainCommit sender b
  | .cancel _ => s.plainCommit sender b
  | .claim _ _ _ _ => s.plainCommit sender b
  | .renew _ _ => s.plainCommit sender b
  | .note _ _ _ => s.plainCommit sender b

/-- R52: what a station in DOUBT does on a committed message: its own LEAVE, or an EVICT naming it. Where its LEAVE
won and the line carried another intact message of its address (R132), the local state and the LEAVE duty stand
(DESIGN CHOICE, assumption 39). -/
def State.doubtCommit (s : State) (sender : Addr) (b : Body) : State :=
  match b with
  | .leave _ => if s.isOwn sender then s.arriveStandby .left else s
  | .evict target reason => if s.isOwn target then s.evicted reason else s
  | .found => s
  | .joinReq => s
  | .snap _ _ => s
  | .release _ => s
  | .cancel _ => s
  | .claim _ _ _ _ => s
  | .renew _ _ => s
  | .note _ _ _ => s

/-- R103: what a SEEKING sender does on the commit of its own FOUND or JOIN_REQ. Where its duty won and the line
carried another intact message of its address (R132), the kind on the line decides, and on a SNAP the local state and
the duty stand (DESIGN CHOICE, assumption 39). -/
def State.seekingCommit (s : State) (b : Body) : State :=
  match b, s.own with
  | .found, some own => s.foundCommitted own
  | .joinReq, _ => s.enterJoining
  | _, _ => s

end Sys2Proof.Machine
end

