-- ==== Sys2Proof/Machine/VerdictPoint.lean ====
section
/-! DEFINITION. The verdict point: the required set, the decision from the two copies, the sender's
view, and the end of the cycle (sections 2.4 to 2.6 and 6.5). -/

namespace Sys2Proof.Machine

/-! ## The copies -/

/-- R34, R53, R144: the two copies as read reach the Verdict Unit in a cycle with a claim (R140), and the
owned verdict bits are read back. -/
def State.readVerdict (s : State) (a b : VerdictCopy) : State :=
  let t := s.makePoint .verdict 499
  let u := if t.line.claimActive then t.setVerdict { t.verdict with copyA := a, copyB := b } else t
  u.readBackVerdict a b

/-- R47: two copies that differ are counted, in every local state. -/
def State.compareCopies (s : State) (a b : VerdictCopy) : State :=
  if s.line.claimActive ∧ a ≠ b then s.countDisagreement else s

/-- R120: an idle claim segment clears the served flag. -/
def State.clearServed (s : State) : State :=
  if s.claimIdle then s.setSelector { s.selector with served := false } else s

/-- The verdict point up to the decision: copies read and compared, hold-offs run, served flag. -/
def State.reachVerdict (s : State) (a b : VerdictCopy) : State :=
  ((s.readVerdict a b).compareCopies a b).runHoldOffs.clearServed

/-! ## The required set -/

/-- R44, Table 2-5: the required set of a message, from the roster. For a JOIN_REQ the table says of the base set
that the sender is not in it. Where the deciding roster already gives the sender role MEMBER or JOINING, which
that remark does not foresee, the model takes the base set whole, the sender in it (DESIGN CHOICE,
assumption 31). -/
def Roster.required (r : Roster) (m : CycleMessage) : StationSet :=
  match m.body with
  | some .found => single m.sender
  | some (.leave _) => erase r.baseSet m.sender
  | some (.evict target _) => erase r.baseSet target
  | some .joinReq => r.baseSet
  | some (.snap _ _) => r.baseSet
  | some (.release _) => r.baseSet
  | some (.cancel _) => r.baseSet
  | some (.claim _ _ _ _) => r.baseSet
  | some (.renew _ _) => r.baseSet
  | some (.note _ _ _) => r.baseSet
  | none => r.baseSet

/-- R45: the slot-derived set in place of a required set; an empty one lacks acceptance whatever the
copies hold. -/
def State.slotRequired (s : State) : Option StationSet :=
  if s.monitor.slotDerived = 0 then none else some s.monitor.slotDerived

/-- Whether the cycle's message is the station's own FOUND, decided as R43 gives. -/
def State.ownFound (s : State) : Bool :=
  s.station == .seeking && s.cycleMessage.kind == some .found

/-- R44, R45: the set whose acceptance the station's decision needs; none when the message lacks
acceptance whatever the copies hold. -/
def State.needed (s : State) : Option StationSet :=
  if s.ownFound then some s.ownSet
  else if s.holdsRoster then some (s.roster.required s.cycleMessage)
  else s.slotRequired

/-- R43: whether the sender of a FOUND counts itself as present in both ACCEPT maps. -/
def State.acceptsItself (s : State) : Bool :=
  s.cleanSender.isSome && s.monitor.slotDerived == 0

/-- The ACCEPT map the station decides with (R43, R46). -/
def State.acceptance (s : State) (copy : VerdictCopy) : StationSet :=
  if s.ownFound then
    if s.acceptsItself then copy.accept ||| s.ownSet else without copy.accept s.ownSet
  else copy.accept

/-! ## The decision -/

/-- The decision of a cycle from its two copies (R46, R47). -/
inductive Decision where
  | committed | notCommitted | disagree
  deriving DecidableEq, Repr

/-- R46: whether one copy's decision is committed. -/
def State.commits (s : State) (copy : VerdictCopy) : Bool :=
  copy.object == 0 &&
    (match s.needed with
     | some need => subset need (s.acceptance copy)
     | none => false)

/-- R35, R46: whether the station decides on the cycle's message. -/
def State.decides (s : State) : Bool :=
  s.claimHeldWinner &&
    (match s.station with
     | .synced => true
     | .leaving => true
     | .joining => true
     | .doubt => true
     | .seeking => s.won
     | .offline => false
     | .standby => false
     | .faulted => false)

/-- R46: the decision of the cycle, at a station that decides. -/
def State.decision (s : State) (a b : VerdictCopy) : Option Decision :=
  if s.decides then
    match s.commits a, s.commits b with
    | true, true => some .committed
    | false, false => some .notCommitted
    | true, false => some .disagree
    | false, true => some .disagree
  else none

/-- Whether the message received was intact (R32). -/
def State.readIntact (s : State) : Bool :=
  s.line.intact == some true

/-! ## A committed cycle -/

/-- R47: a committed cycle whose message was read not intact: doubt in the cluster states that can
doubt; the own LEAVE of a DOUBT station and the own FOUND of a SEEKING one count as committed. R127 gives
the sender no view of such a cycle, and the DOUBT station's LEAVE is not ended by one: it is dropped with every duty
by the departure (R109) that R52 makes of the decision. A DOUBT station that stays in DOUBT keeps it (DESIGN CHOICE,
assumption 10). -/
def State.damagedCommit (s : State) : State :=
  match s.station, s.cycleMessage.body, s.own with
  | .seeking, some .found, some own => s.foundCommitted own
  | .doubt, some (.leave _), _ => if s.won then s.arriveStandby .left else s
  | _, _, _ => if s.canDoubt then s.enterDoubt .damagedCommit else s

/-- The effect of a committed cycle whose message was read intact, by local state. -/
def State.intactCommit (s : State) (sender : Addr) (b : Body) : State :=
  match s.station with
  | .seeking => s.seekingCommit b
  | .doubt => s.doubtCommit sender b
  | .synced => s.clusterCommit sender b
  | .leaving => s.clusterCommit sender b
  | .joining => s.clusterCommit sender b
  | .offline => s
  | .standby => s
  | .faulted => s

/-- R46, R49: a cycle decided committed is counted, and its message has its effect. -/
def State.onCommitted (s : State) : State :=
  match s.readIntact, s.cycleMessage.body with
  | true, some b => s.countCommit.intactCommit s.cycleMessage.sender b
  | _, _ => s.countCommit.damagedCommit

/-! ## A cycle not committed: the sender's view -/

/-- R48: the objector set. -/
def objectors (a b : VerdictCopy) : StationSet :=
  a.object ||| b.object

/-- R48: the non-accepting set: what each copy lacks of the required set. -/
def State.nonAccepting (s : State) (a b : VerdictCopy) : StationSet :=
  match s.needed with
  | some need => without need (s.acceptance a &&& s.acceptance b)
  | none => 0

/-- R71, R130: the refused mark of a target. -/
def Monitor.refuse (m : Monitor) (target : Addr) : Monitor :=
  { m with peers := put m.peers target { m.peers.get target with refused := true } }

/-- R127, Table 6-3: an objected attempt. -/
def State.onObjected (s : State) (source : Source) (set : StationSet) : State :=
  match source with
  | .entry tag => s.endEntry tag .objected none (some set) none
  | .urgent (.leave _) => s.arriveStandby .left
  | .urgent (.evict target _) =>
    (s.setSelector { s.selector with urgent := none }).setMonitor (s.monitor.refuse target)
  | .sync .found => s.setSelector { s.selector with seekHold := Config.holdOffCycles }
  | .sync .joinReq => s.setSelector { s.selector with seekHold := Config.holdOffCycles }
  | .sync (.snap _) =>
    s.setSelector { s.selector with snapHold := Config.holdOffCycles, sync := none }

/-- R128: whether the attempt that ends here brings an entry to the retry limit. -/
def State.atRetryLimit (s : State) (e : SendEntry) : Bool :=
  s.controller.config.retryLimit ≤ e.attempts + 1

/-- R128: an entry whose attempt lacked acceptance. -/
def State.countAttempt (s : State) (tag : Byte) (set : StationSet) : State :=
  match s.sendQueue.find tag with
  | some e =>
    if s.station = .leaving then s.endEntry tag .withdrawn none none none
    else if s.atRetryLimit e then s.endEntry tag .failed none (some set) none
    else
      s.setSendQueue (s.sendQueue.change tag
        (fun e => { e with attempts := e.attempts + 1, state := .waiting }))
  | none => s

/-- R127, Table 6-3: an attempt that lacked acceptance; a duty stands. -/
def State.onLacking (s : State) (source : Source) (set : StationSet) : State :=
  match source with
  | .entry tag => s.countAttempt tag set
  | .urgent _ => s
  | .sync _ => s

/-- The source of the message this station won the claim segment with. -/
def State.wonSource (s : State) : Option Source :=
  match s.selector.inFlight with
  | some f => if f.claim = .won then some f.source else none
  | none => none

/-- R48: the sender's view of a cycle that did not commit. -/
def State.onNotCommitted (s : State) (a b : VerdictCopy) : State :=
  match s.wonSource with
  | some source =>
    if objectors a b = 0 then s.onLacking source (s.nonAccepting a b)
    else s.onObjected source (objectors a b)
  | none => s

/-! ## The point -/

/-- R46, R47: what the decision of the cycle does. -/
def State.judge (s : State) (a b : VerdictCopy) : State :=
  match s.decision a b with
  | some .committed => s.onCommitted
  | some .notCommitted => s.onNotCommitted a b
  | some .disagree => if s.canDoubt then s.enterDoubt .copyDisagree else s
  | none => s

/-- R91: whether the station decided a SNAP committed in this cycle. -/
def State.snapCommitted (s : State) (a b : VerdictCopy) : Bool :=
  s.decision a b == some .committed && s.cycleMessage.kind == some .snap

/-- R91: the stall count at the end of the cycle, for a station that was acquiring a replica before the
decision; `before` is the station before the decision. A SNAP decided committed sets it to 0, a gap (R90) too, and any
other cycle adds one. A verdict point that takes the joiner into DOUBT (the copies disagree, a damaged commit, a gap)
leaves it so for DOUBT to keep (R76); the doubt comes before the join stall that the count would bring (DESIGN CHOICE,
assumption 7). -/
def State.updateStall (s before : State) (a b : VerdictCopy) : State :=
  if before.acquiring && (s.acquiring || s.station == .doubt) then
    if before.snapCommitted a b then s.setSnapshot { s.snapshot with stall := 0 }
    else if s.acquiring then s.stallStep
    else s.countStall
  else s

/-- R46: the verdict point, made once in a cycle and never in WAITING. -/
def State.takeVerdict (s : State) (a b : VerdictCopy) : State :=
  if s.canMake .verdict then
    let t := s.reachVerdict a b
    ((t.judge a b).updateStall t a b).dropFlight
  else s

/-- VERDICT_POINT (R46). -/
def execVerdictPoint (a b : VerdictCopy) (s : State) : Host.Outcome State Fault Refusal :=
  .next (s.unlessReset (s.takeVerdict a b))

end Sys2Proof.Machine
end

