-- ==== Sys2Proof/Machine/BitClock.lean ====
section
/-! DEFINITION. The line clock: one bit time in which no row says what the line carries (R134 to R142). -/

namespace Sys2Proof.Machine

/-! ## A line on which no other station drives -/

/-- The number that a run of bits of the cycle reads as, most significant bit first (R135). -/
def State.readField (s : State) (start len : Nat) : Nat :=
  (List.range len).foldl (fun n i => 2 * n + (s.readLevel (start + i)).toNat) 0

/-- R135, R139: the sixteen slots as read when no other station drives, but for the bits that a row has told. A
slot that a START has ended reads absent, the bits of it driven before being left out (assumption 14). -/
def State.quietSlots (s : State) : Slots :=
  tabulate 16 (fun a => BitVec.ofNat 16 (s.readField (16 * a.val) 16))

/-- R122, R123, R135: the claim segment as read when no other station drives, but for the bits that a row has
told: after a loss or a fault the bits driven before it stand as read. -/
def State.quietClaim (s : State) : ClaimRead :=
  { start := if s.readLevel 260 then .recessive else .dominant
    cls := BitVec.ofNat 2 (s.readField 261 2)
    addr := Fin.ofNat 16 (s.readField 263 4) }

/-- R125, R135: the message segment as read when no other station drives, but for the bits that a row has told. -/
def State.quietMessage (s : State) : MessageBytes :=
  tabulate 20 (fun i => natByte (s.readField (272 + 8 * i.val) 8))

/-- R34, R135: the verdict copy that begins at a bit as read when no other station drives, but for the bits that
a row has told. -/
def State.quietCopy (s : State) (start : Nat) : VerdictCopy :=
  { accept := setOf (fun a => !s.readLevel (start + a.val))
    object := setOf (fun a => !s.readLevel (start + 16 + a.val)) }

/-- Verdict copy A (Table 11-1). -/
def State.quietCopyA (s : State) : VerdictCopy :=
  s.quietCopy 436

/-- Verdict copy B (Table 11-1). -/
def State.quietCopyB (s : State) : VerdictCopy :=
  s.quietCopy 468

/-! ## One bit time -/

/-- The point that follows the sample of a bit (R137, R140), when no row has made it. -/
def State.pointAfter (s : State) (n : Fin 512) : State :=
  if 499 ≤ n.val then s.takeVerdict s.quietCopyA s.quietCopyB
  else if 431 ≤ n.val then s.takeMessage s.quietMessage
  else if 266 ≤ n.val then s.takeClaim s.quietClaim
  else if n.val = 255 then s.takeStatus s.quietSlots
  else s

/-- The cycle position replaced. -/
def State.setPosition (s : State) (p : CyclePosition) : State :=
  s.setLine { s.line with position := p }

/-- R134: the position after a bit of the cycle: the next bit, and after bit 511 the bit time in which the mark is
expected. -/
def bitAfter (n : Fin 512) : CyclePosition :=
  if h : n.val + 1 < 512 then .bit ⟨n.val + 1, h⟩ else .due

/-- The point that the falling edge after a bit begins with: the selection point at bit 260 (R137). -/
def State.pointBefore (s : State) (n : Fin 512) : State :=
  if n.val = 259 then s.takeSelection else s

/-- R134, R136, R142: one bit time passes with PLM giving no mark and no other station driving PLD,
but for what a row has told of a bit. The position
advances by one, the points of the cycle are made at their bits, and the sixteenth bit time after bit 511 without
a mark finds the mark lost. While RST# is low no bit time is counted (R192). -/
def bitTime (s : State) : State :=
  if s.port.rstLow then s
  else
    match s.line.position with
    | .waiting => s
    | .bit n => ((s.pointAfter n).setPosition (bitAfter n)).pointBefore n
    | .due => s.setPosition (.stretch 1)
    | .stretch k => if k < 15 then s.setPosition (.stretch (k + 1)) else s.loseMark

end Sys2Proof.Machine
end

