-- ==== Sys2Proof/Machine/OwnedBits.lean ====
section
/-! DEFINITION. Owned bits read back one at a time: OWNED_BIT_MISMATCH (section 7.7). -/

namespace Sys2Proof.Machine

/-- R144: a bit of the slot driven from the mark. -/
def State.ownsSlotBit (s : State) (bit : Fin 512) : Bool :=
  match s.line.slotDrive with
  | some d => isSlotBit bit d.address && s.line.point == .mark
  | none => false

/-- R144: a bit of its own in a verdict copy, in a cycle in which a stance was taken. -/
def State.ownsVerdictBit (s : State) (bit : Fin 512) : Bool :=
  match s.own with
  | some own => isVerdictBit bit own && s.verdict.stance != .notTaken && s.line.point == .message
  | none => false

/-- R144: whether a bit of the cycle is one of this station's owned bits and is still to be read: a bit of
the slot it drives, before the status point; or a bit of its own in a verdict copy, once it has taken a
stance and before the verdict point. -/
def State.ownsBit (s : State) (bit : Fin 512) : Bool :=
  s.ownsBits && s.line.position != .waiting && (s.ownsSlotBit bit || s.ownsVerdictBit bit)

/-- R145: a mismatch of an owned bit at that bit. -/
def State.mismatchOwned (s : State) (bit : Fin 512) : State :=
  if s.ownsBit bit then (s.misreadBit bit).ownedMismatch else s

/-- OWNED_BIT_MISMATCH (R145). -/
def execOwnedBitMismatch (bit : Fin 512) (s : State) : Host.Outcome State Fault Refusal :=
  .next (s.unlessReset (s.mismatchOwned bit))

end Sys2Proof.Machine
end

