-- ==== Sys2Proof/Machine/Limits.lean ====
section
/-! DEFINITION. The rows that name the reaching of a limit. Each is the point of the line cycle at which
the limit is reached; where the limit is not reached at that point, the event is not one that happens, and
nothing changes (assumption 1). -/

namespace Sys2Proof.Machine

/-! ## At a cycle mark -/

/-- R22: whether the lease of the zone runs out in the expiry pass of the mark. -/
def State.expiresAt (s : State) (zone : ZoneId) (mark : Mark) : Bool :=
  (s.beforePass mark).zoneActive zone && leaseRunsOut ((s.beforePass mark).zones.get zone)

/-- LEASE_EXPIRY (R22). -/
def execLeaseExpiry (zone : ZoneId) (mark : Mark) (s : State) : Host.Outcome State Fault Refusal :=
  .next (s.unlessReset (if s.expiresAt zone mark then s.takeMark mark else s))

/-! ## At the status point -/

/-- R99: whether this status point brings the listen count to 2. -/
def State.passesListening (s : State) (slots : Slots) : Bool :=
  s.canMake .status && (s.readStatus slots).station == .standby
    && (s.readStatus slots).controller.listen + 1 == Config.listenCycles
    && (match s.own with
        | some a => !slotPresent (slotOf slots a)
        | none => false)

/-- LISTEN_CHECK_PASSED (R99). -/
def execListenCheckPassed (slots : Slots) (s : State) : Host.Outcome State Fault Refusal :=
  .next (s.unlessReset (if s.passesListening slots then s.takeStatus slots else s))

/-- R102: whether this status point brings the formation count to the formation wait. -/
def State.reachesWait (s : State) (slots : Slots) : Bool :=
  s.canMake .status && (s.readStatus slots).station == .seeking
    && (s.readStatus slots).monitor.slotDerived == 0
    && (s.readStatus slots).controller.formation < s.controller.config.formationWait
    && s.controller.config.formationWait ≤ (s.readStatus slots).formationNext

/-- FORMATION_WAIT_EXPIRY (R102). -/
def execFormationWaitExpiry (slots : Slots) (s : State) : Host.Outcome State Fault Refusal :=
  .next (s.unlessReset (if s.reachesWait slots then s.takeStatus slots else s))

/-- R73: whether this status point brings the divergence count to 2. -/
def State.diverges (s : State) (slots : Slots) : Bool :=
  s.canMake .status && (s.readStatus slots).station == .synced
    && Config.divergenceLimit ≤ (s.readStatus slots).divergenceNext slots

/-- DIVERGENCE (R73). -/
def execDivergence (slots : Slots) (s : State) : Host.Outcome State Fault Refusal :=
  .next (s.unlessReset (if s.diverges slots then s.takeStatus slots else s))

/-- R70: whether a SYNCED station that stays SYNCED has a candidate at this status point. -/
def State.hasCandidate (s : State) (slots : Slots) : Bool :=
  s.canMake .status && (s.readStatus slots).station == .synced
    && !(s.diverges slots) && (s.readStatus slots).evictDuty.isSome

/-- EVICTION_CANDIDATE (R70). -/
def execEvictionCandidate (slots : Slots) (s : State) : Host.Outcome State Fault Refusal :=
  .next (s.unlessReset (if s.hasCandidate slots then s.takeStatus slots else s))

/-! ## At an owned bit -/

/-- R145: whether a mismatch at the bit brings the run count to 3. -/
def State.faultsAt (s : State) (bit : Fin 512) : Bool :=
  s.ownsBit bit && !s.line.mismatchSeen && Config.readbackLimit ≤ s.line.runCount + 1

/-- READBACK_FAULT (R115, R145). -/
def execReadbackFault (bit : Fin 512) (s : State) : Host.Outcome State Fault Refusal :=
  .next (s.unlessReset (if s.faultsAt bit then s.mismatchOwned bit else s))

/-! ## At the verdict point -/

/-- R128: whether the decision of the cycle is not committed, with no objection, for an entry of a SYNCED
station that its attempt brings to the retry limit. -/
def State.exhausts (s : State) (a b : VerdictCopy) : Bool :=
  s.station == .synced && s.decision a b == some .notCommitted && objectors a b == 0 &&
    (match s.wonSource with
     | some (.entry tag) =>
       (match s.sendQueue.find tag with
        | some e => s.atRetryLimit e
        | none => false)
     | some (.urgent _) => false
     | some (.sync _) => false
     | none => false)

/-- RETRY_LIMIT_REACHED (R128). -/
def execRetryLimitReached (a b : VerdictCopy) (s : State) : Host.Outcome State Fault Refusal :=
  .next (s.unlessReset
    (if s.canMake .verdict && (s.reachVerdict a b).exhausts a b then s.takeVerdict a b else s))

/-! ## At the end of a cycle -/

/-- The point that ends a cycle. -/
def State.takeEnd (s : State) (finish : CycleEnd) : State :=
  match finish with
  | .verdict a b => s.takeVerdict a b
  | .cut bit claimStart => s.takeEarlyMark bit claimStart

/-- R91, R129: whether an early mark ends the cycle in progress for the blocks that count cycles. -/
def State.cutEndsCycle (s : State) : Bool :=
  s.markIsEarly && s.line.point != .verdict

/-- R91: whether the decision of the cycle leaves an acquiring station with a stall count that reaches
128. -/
def State.stallsAtVerdict (s : State) (a b : VerdictCopy) : Bool :=
  s.acquiring && !(s.snapCommitted a b) && (s.judge a b).stallDue

/-- R91: whether a cut at the bit brings the stall count to 128: with the claim-active flag set the station
doubts instead (R112). -/
def State.stallsAtCut (s : State) (bit : Fin 512) (claimStart : Level) : Bool :=
  s.cutEndsCycle && !(s.cutClaimActive bit claimStart) && s.stallDue

/-- R91: whether this end of cycle brings the stall count to 128. -/
def State.stallsAt (s : State) (finish : CycleEnd) : Bool :=
  match finish with
  | .verdict a b => s.canMake .verdict && (s.reachVerdict a b).stallsAtVerdict a b
  | .cut bit claimStart => s.stallsAtCut bit claimStart

/-- JOIN_STALL (R91). -/
def execJoinStall (finish : CycleEnd) (s : State) : Host.Outcome State Fault Refusal :=
  .next (s.unlessReset (if s.stallsAt finish then s.takeEnd finish else s))

/-- R129: whether the hold-off owned by the local state has one cycle left. -/
def State.holdOffLast (s : State) : Bool :=
  match s.station with
  | .seeking => s.selector.seekHold == 1
  | .synced => s.selector.snapHold == 1
  | .offline => false
  | .standby => false
  | .joining => false
  | .leaving => false
  | .doubt => false
  | .faulted => false

/-- R129: whether this end of cycle brings a hold-off to 0. -/
def State.holdOffEnds (s : State) (finish : CycleEnd) : Bool :=
  match finish with
  | .verdict a b => s.canMake .verdict && (s.readVerdict a b).holdOffLast
  | .cut _ _ => s.cutEndsCycle && s.holdOffLast

/-- HOLD_OFF_EXPIRY (R129). -/
def execHoldOffExpiry (finish : CycleEnd) (s : State) : Host.Outcome State Fault Refusal :=
  .next (s.unlessReset (if s.holdOffEnds finish then s.takeEnd finish else s))

end Sys2Proof.Machine
end

