-- ==== Sys2Proof/Machine/Port.lean ====
section
/-! DEFINITION. The transaction of the host port: its opening, and the taking of a command (sections
10.1 and 10.2). -/

namespace Sys2Proof.Machine

/-- What the taking of a command gives: the station after it, and the reply (R174). -/
structure Taken where
  state : State
  reply : Reply

/-- A command refused with a reply code: nothing changes (R176). -/
def State.refuse (s : State) (code : ReplyCode) : Taken :=
  { state := s, reply := { code := code, data := [] } }

/-- A command done, with a reply of OK and its data. -/
def State.done (s : State) (data : List Byte) : Taken :=
  { state := s, reply := { code := .ok, data := data } }

/-- R173, R175: the transaction a fall of CS# opens. -/
def State.openPort (s : State) : Port :=
  { Port.cleared with
    phase := .command, status := some s.statusByte, csLow := true, rstLow := s.port.rstLow }

/-- The parameter bytes received are the first of the command's, and the last is still to come. -/
def properStart (received all : List Byte) : Bool :=
  received.isPrefixOf all && received.length < all.length

/-- The port as a command finds it at its taking, when the transaction in progress can come to that
command: a transaction not yet begun, CS# high; one whose command byte is due; or one with the first
bytes of this command (assumption 2). -/
def State.readyPort (s : State) (c : PortCommand) (params : List Byte) : Option Port :=
  match s.port.phase with
  | .idle => if s.port.csLow then none else some s.openPort
  | .command => some s.port
  | .parameters =>
    if s.port.command = some c ∧ properStart s.port.parameters params then some s.port else none
  | .reply => none
  | .drained => none

/-- R174: the port after the taking: the reply captured, phase REPLY. -/
def Port.answer (p : Port) (c : PortCommand) (params : List Byte) (reply : Reply) : Port :=
  { p with
    phase := .reply, command := some c, parameters := params, reply := some reply
    replyPosition := 0 }

/-- R174: a command taken: its whole effect made and its reply captured at one point. -/
def State.takeCommand (s : State) (c : PortCommand) (params : List Byte) (run : State → Taken) :
    State :=
  match s.readyPort c params with
  | some p => (run s).state.setPort (p.answer c params (run s).reply)
  | none => s

end Sys2Proof.Machine
end

