-- ==== Sys2Proof/Machine/EventCommands.lean ====
section
/-! DEFINITION. The commands of the Event Queue: FETCH_EVENT and ACK_EVENT (section 9.3). -/

namespace Sys2Proof.Machine

/-- R166: the fetched count the fetch of a head record sets. -/
def EventRecord.lostCount (r : EventRecord) : Nat :=
  match r with
  | .overflow lost => lost
  | .result _ => 0
  | .grant _ _ _ _ => 0
  | .expire _ _ => 0
  | .zone _ _ _ _ _ _ => 0
  | .note _ _ => 0
  | .state _ _ _ _ => 0

/-- FETCH_EVENT (R166). -/
def State.fetchEvent (s : State) : Taken :=
  match s.events.records with
  | head :: _ =>
    (s.setEvents { s.events with fetched := head.record.lostCount }).done (queuedBytes head)
  | [] => s.refuse .empty

/-- R167, R168: the queue without its head record; an OVERFLOW whose lost count exceeds the fetched count
leaves the difference in a new OVERFLOW record. -/
def EventQueue.removeHead (q : EventQueue) (head : QueuedRecord) (rest : List QueuedRecord) :
    EventQueue :=
  let r := { q with records := rest, fetched := 0 }
  if q.fetched < head.record.lostCount then
    r.append (.overflow (head.record.lostCount - q.fetched))
  else r

/-- ACK_EVENT (R167, R168). -/
def State.ackEvent (s : State) (sequence : Byte) : Taken :=
  match s.events.records with
  | head :: rest =>
    if head.sequence = sequence then (s.setEvents (s.events.removeHead head rest)).done []
    else s.refuse .mismatch
  | [] => s.refuse .empty

/-- FETCH_EVENT (R166). -/
def execFetchEvent (s : State) : Host.Outcome State Fault Refusal :=
  .next (s.unlessReset (s.takeCommand (.known .fetchEvent) [] State.fetchEvent))

/-- ACK_EVENT (R167). -/
def execAckEvent (sequence : Byte) (s : State) : Host.Outcome State Fault Refusal :=
  .next (s.unlessReset
    (s.takeCommand (.known .ackEvent) [sequence] (fun t => t.ackEvent sequence)))

end Sys2Proof.Machine
end

