-- ==== Sys2Proof/Machine/RequestCommands.lean ====
section
/-! DEFINITION. The commands of the Send Queue: CLAIM, RENEW, RELEASE, CANCEL, NOTE and RECALL (sections
8.1 and 8.3, R179, R180). -/

namespace Sys2Proof.Machine

/-- R148 step 4: an entry of the queue carries the tag. -/
def SendQueue.tagInUse (q : SendQueue) (tag : Byte) : Bool :=
  q.entries.any (fun e => e.tag == tag)

/-- The zone of a CLAIM; none for the other requests. -/
def Request.claimZone? (r : Request) : Option ZoneId :=
  match r with
  | .claim z _ _ _ => some z
  | .renew _ _ => none
  | .release _ => none
  | .cancel _ => none
  | .note _ _ => none

/-- R148 step 5: the request is a CLAIM, and an entry is a CLAIM naming the same zone. -/
def SendQueue.duplicates (q : SendQueue) (r : Request) : Bool :=
  r.claimZone?.isSome && q.entries.any (fun e => e.request.claimZone? == r.claimZone?)

/-- R148 step 6: the request is a CLAIM with the wait flag, and the wait count is 16. -/
def SendQueue.waitsFull (q : SendQueue) (r : Request) : Bool :=
  r.waitFlag && Config.waitsCapacity ≤ q.waitCount

/-- R148: an entry appended at the tail, attempts 0, WAITING. -/
def SendQueue.join (q : SendQueue) (tag : Byte) (r : Request) : SendQueue :=
  { q with
    entries := q.entries ++ [{ tag := tag, request := r, attempts := 0, state := .waiting }] }

/-- R148: a line request, its parameters read as `request` (none when one is out of range). -/
def State.takeRequest (s : State) (tag : Byte) (request : Option Request) : Taken :=
  if s.station = .synced then
    match request with
    | none => s.refuse .range
    | some r =>
      if Config.sendQueueCapacity ≤ s.sendQueue.entries.length then s.refuse .full
      else if s.sendQueue.tagInUse tag then s.refuse .tagInUse
      else if s.sendQueue.duplicates r then s.refuse .duplicate
      else if s.sendQueue.waitsFull r then s.refuse .waitsFull
      else (s.setSendQueue (s.sendQueue.join tag r)).done []
  else s.refuse .state

/-- R152: the entry of a tag removed with no record. -/
def State.recall (s : State) (tag : Byte) : Taken :=
  match s.sendQueue.find tag with
  | some e =>
    match e.state with
    | .waiting => (s.setSendQueue (s.sendQueue.drop tag)).done []
    | .inFlight => s.refuse .inflight
  | none => s.refuse .notFound

/-- CLAIM (R148). -/
def execClaim (tag zone mode wait duration : Byte) (s : State) : Host.Outcome State Fault Refusal :=
  .next (s.unlessReset
    (s.takeCommand (.known .claim) [tag, zone, mode, wait, duration]
      (fun t => t.takeRequest tag (claimRequest zone mode wait duration))))

/-- RENEW (R148). -/
def execRenew (tag zone duration : Byte) (s : State) : Host.Outcome State Fault Refusal :=
  .next (s.unlessReset
    (s.takeCommand (.known .renew) [tag, zone, duration]
      (fun t => t.takeRequest tag (renewRequest zone duration))))

/-- RELEASE (R148). -/
def execRelease (tag zone : Byte) (s : State) : Host.Outcome State Fault Refusal :=
  .next (s.unlessReset
    (s.takeCommand (.known .release) [tag, zone]
      (fun t => t.takeRequest tag (releaseRequest zone))))

/-- CANCEL (R148). -/
def execCancel (tag zone : Byte) (s : State) : Host.Outcome State Fault Refusal :=
  .next (s.unlessReset
    (s.takeCommand (.known .cancel) [tag, zone]
      (fun t => t.takeRequest tag (cancelRequest zone))))

/-- NOTE (R148, R179). Data bytes of another number than the length byte makes the command take are no
NOTE the port can have received, and nothing changes. -/
def execNote (tag destination length : Byte) (data : List Byte) (s : State) :
    Host.Outcome State Fault Refusal :=
  .next (s.unlessReset
    (if 3 + data.length = noteParams length then
      s.takeCommand (.known .note) (tag :: destination :: length :: data)
        (fun t => t.takeRequest tag (noteRequest destination length data))
    else s))

/-- RECALL (R152). -/
def execRecall (tag : Byte) (s : State) : Host.Outcome State Fault Refusal :=
  .next (s.unlessReset (s.takeCommand (.known .recall) [tag] (fun t => t.recall tag)))

end Sys2Proof.Machine
end

