-- ==== Sys2Proof/Machine/StationCommands.lean ====
section
/-! DEFINITION. The commands of the Station Controller: CONFIGURE, START, STOP, JOIN, LEAVE, and RESET
(sections 5.1 to 5.5, R178, R188). -/

namespace Sys2Proof.Machine

/-- R96, R178: the record replaced whole, in OFFLINE. -/
def State.configure (s : State) (address silenceLimit formationWait retryLimit rejoin : Byte) :
    Taken :=
  if s.station = .offline then
    match configRequest address silenceLimit formationWait retryLimit rejoin with
    | some r =>
      (s.setController { s.controller with configured := true, config := r }).done []
    | none => s.refuse .range
  else s.refuse .state

/-- R99: STANDBY with listen count 0. In the listening check the station drives nothing, its own slot included:
a slot still being driven from before a STOP ends (assumption 14). -/
def State.startListening (s : State) : State :=
  ((s.setController { s.controller with listen := 0 }).setLine
    { s.line with slotDrive := none }).changeStation .standby .command s.heldZones

/-- START (R99). -/
def State.startStation (s : State) : Taken :=
  if s.station = .offline ∧ s.controller.configured = true then s.startListening.done []
  else s.refuse .state

/-- R100: OFFLINE, with the counts, the eviction reason, the peer watch and the run count cleared
(Table 7-1). A slot being driven from the mark runs on to its end (R97, R138), but no bit is owned any more
(R145). -/
def State.goOffline (s : State) : State :=
  { s with
    controller := { s.controller with listen := 0, formation := 0, lastEviction := none }
    monitor := Monitor.cleared
    line := { s.line with runCount := 0, cleanPending := false }
  }.changeStation .offline .command s.heldZones

/-- STOP (R100). -/
def State.stopStation (s : State) : Taken :=
  if s.station = .standby ∨ s.station = .faulted then s.goOffline.done [] else s.refuse .state

/-- JOIN (R101, R102). -/
def State.joinStation (s : State) : Taken :=
  if s.station = .standby ∧ s.controller.listen = Config.listenCycles then
    ((s.changeStation .seeking .command s.heldZones).beginSeeking).done []
  else s.refuse .state

/-- R107: the change to LEAVING: entries not in flight withdrawn, the STATE record, duties dropped
(R117), the divergence count 0 (R73). -/
def State.beginLeaving (s : State) : State :=
  let t := s.withdrawWaiting.changeStation .leaving .command s.heldZones
  { t with
    selector := { t.selector with urgent := none, sync := none }
    monitor := { t.monitor with divergence := 0 } }

/-- LEAVE (R104, R107). -/
def State.leaveCluster (s : State) : Taken :=
  match s.station with
  | .seeking =>
    if s.selector.inFlight.isSome then s.refuse .inflight else (s.arriveStandby .command).done []
  | .synced => s.beginLeaving.done []
  | .joining => s.beginLeaving.done []
  | .offline => s.refuse .state
  | .standby => s.refuse .state
  | .leaving => s.refuse .state
  | .doubt => s.refuse .state
  | .faulted => s.refuse .state

/-- R95, R188: every block but the Host Port at its hardware-reset value, the configuration record and
the configured flag kept. The queue of commands is the outside's and stands. -/
def State.resetBlocks (s : State) : State :=
  { State.reset with
    controller :=
      { Controller.cleared with
        configured := s.controller.configured, config := s.controller.config }
    port := s.port
    pending := s.pending }

/-- CONFIGURE (R96). -/
def execConfigure (address silenceLimit formationWait retryLimit rejoin : Byte) (s : State) :
    Host.Outcome State Fault Refusal :=
  .next (s.unlessReset
    (s.takeCommand (.known .configure)
      [address, silenceLimit, formationWait, retryLimit, rejoin]
      (fun t => t.configure address silenceLimit formationWait retryLimit rejoin)))

/-- START (R99). -/
def execStart (s : State) : Host.Outcome State Fault Refusal :=
  .next (s.unlessReset (s.takeCommand (.known .start) [] State.startStation))

/-- STOP (R100). -/
def execStop (s : State) : Host.Outcome State Fault Refusal :=
  .next (s.unlessReset (s.takeCommand (.known .stop) [] State.stopStation))

/-- JOIN (R101). -/
def execJoin (s : State) : Host.Outcome State Fault Refusal :=
  .next (s.unlessReset (s.takeCommand (.known .join) [] State.joinStation))

/-- LEAVE (R104, R107). -/
def execLeave (s : State) : Host.Outcome State Fault Refusal :=
  .next (s.unlessReset (s.takeCommand (.known .leave) [] State.leaveCluster))

/-- RESET (R188). -/
def execReset (s : State) : Host.Outcome State Fault Refusal :=
  .next (s.unlessReset (s.takeCommand (.known .reset) [] (fun t => t.resetBlocks.done [])))

end Sys2Proof.Machine
end

