-- ==== Sys2Proof/Machine/TableCommands.lean ====
section
/-! DEFINITION. The Policy Table and the read commands: VETO, WATCH, READ_ZONE, READ_ROSTER, READ_STATION
(sections 10.3 and 10.4). -/

namespace Sys2Proof.Machine

/-! ## The Policy Table -/

/-- VETO (R182). -/
def State.writeVeto (s : State) (zone flag : Byte) : Taken :=
  match zoneOf zone with
  | some z =>
    (s.setPolicy { s.policy with veto := setZoneFlag s.policy.veto z (flag != 0) }).done
      [flagByte (zoneFlag s.policy.veto z)]
  | none => s.refuse .range

/-- WATCH (R183). -/
def State.writeWatch (s : State) (zone flag : Byte) : Taken :=
  match zoneOf zone with
  | some z =>
    (s.setPolicy { s.policy with watch := setZoneFlag s.policy.watch z (flag != 0) }).done
      [flagByte (zoneFlag s.policy.watch z)]
  | none => s.refuse .range

/-! ## Reading a zone -/

/-- R184, R185: the local states in which the replica is read. -/
def State.readable (s : State) : Bool :=
  s.station == .synced || s.station == .leaving || s.station == .doubt

/-- R184: the loaded flag of a zone. -/
def State.loadedFlag (s : State) (z : ZoneId) : Bool :=
  match s.ownRole with
  | .member => true
  | .joining => s.zoneLoaded z
  | .queued => s.zoneLoaded z
  | .absent => false

/-- Table 11-10: the flags byte of READ_ZONE. -/
def State.zoneFlagsByte (s : State) (z : ZoneId) : Byte :=
  natByte (presence (s.loadedFlag z) 4 + presence (zoneFlag s.policy.veto z) 2
    + presence (zoneFlag s.policy.watch z) 1)

/-- Tables 10-5, 11-10: the READ_ZONE reply data. -/
def State.zoneReply (s : State) (z : ZoneId) : List Byte :=
  let e := s.zones.get z
  [natByte z.val, natByte e.state.code] ++ bytes16 e.holders ++ bytes16 (remainingCode e.remaining)
    ++ [e.generation, natByte e.queue.length] ++ waitersBytes e.queue ++ bytes16 s.roster.counter
    ++ [s.zoneFlagsByte z]

/-- READ_ZONE (R184). -/
def State.readZone (s : State) (zone : Byte) : Taken :=
  if s.readable then
    match zoneOf zone with
    | some z => s.done (s.zoneReply z)
    | none => s.refuse .range
  else s.refuse .state

/-! ## Reading the roster -/

/-- R190: an address, 0xFF for none. -/
def addrByte (a : Option Addr) : Byte :=
  match a with
  | some a => natByte a.val
  | none => 0xFF

/-- Tables 10-6, 11-10: the READ_ROSTER reply data. -/
def State.rosterReply (s : State) : List Byte :=
  [flagByte (s.ownRole != .absent)] ++ rolesBytes s.roster.roles
    ++ joinQueueBytes s.roster.joinQueue
    ++ [progressByte s.roster.progress, addrByte s.roster.donor] ++ bytes16 s.roster.counter

/-- READ_ROSTER (R185). -/
def State.readRoster (s : State) : Taken :=
  if s.readable then s.done s.rosterReply else s.refuse .state

/-! ## Reading the station -/

/-- R190: the code of a last eviction reason, 0 for none. -/
def evictionByte (r : Option EvictReason) : Byte :=
  match r with
  | some r => natByte r.code
  | none => 0

/-- R190: the ten bytes of the Station Controller. -/
def Controller.bytes (c : Controller) : List Byte :=
  [natByte c.station.code, flagByte c.configured, addrByte c.config.address,
   natByte c.config.silenceLimit, natByte c.config.formationWait, natByte c.config.retryLimit,
   flagByte c.config.rejoin, natByte c.listen, natByte c.formation, evictionByte c.lastEviction]

/-- R190: the last mode of a peer watch record, 0xFF for not present. -/
def lastModeByte (m : Option SlotMode) : Byte :=
  match m with
  | some m => natByte m.code
  | none => 0xFF

/-- R190: a peer watch record in four bytes. -/
def PeerRecord.bytes (p : PeerRecord) : List Byte :=
  lastModeByte p.lastMode :: bytes16 (p.lastCounter.setWidth 16)
    ++ [natByte (p.silence * 8 + p.mismatch * 2 + presence p.refused 1)]

/-- R190: the 65 bytes of the Status Monitor. -/
def Monitor.bytes (m : Monitor) : List Byte :=
  natByte m.divergence :: allAddrs.flatMap (fun a => (m.peers.get a).bytes)

/-- A line counter in two bytes. -/
def counterBytes (n : Nat) : List Byte :=
  bytes16 (BitVec.ofNat 16 n)

/-- R190: the 14 bytes of the Line Interface, its counters in the order of Table 7-4. -/
def Line.bytes (l : Line) : List Byte :=
  [flagByte (l.position == .waiting), natByte l.runCount] ++ counterBytes l.counters.commitsSeen
    ++ counterBytes l.counters.crcErrors ++ counterBytes l.counters.arbitrationLosses
    ++ counterBytes l.counters.copyDisagreements ++ counterBytes l.counters.markFaults
    ++ counterBytes l.counters.readbackMismatches

/-- R190: the kind code of an URGENT duty, 0 for none. -/
def urgentByte (d : Option UrgentDuty) : Byte :=
  match d with
  | some (.leave _) => natByte Kind.leave.code
  | some (.evict _ _) => natByte Kind.evict.code
  | none => 0

/-- R190: the kind code of a SYNC duty, 0 for none. -/
def syncByte (d : Option SyncDuty) : Byte :=
  match d with
  | some .found => natByte Kind.found.code
  | some .joinReq => natByte Kind.joinReq.code
  | some (.snap _) => natByte Kind.snap.code
  | none => 0

/-- R190: the kind and claim state of the message in flight, 0 for none. -/
def flightBytes (m : Option InFlight) : List Byte :=
  match m with
  | some f =>
    match f.claim with
    | .contending => [natByte f.kind.code, 1]
    | .won => [natByte f.kind.code, 2]
  | none => [0, 0]

/-- R190: the seven bytes of the Transmit Selector. -/
def Selector.bytes (x : Selector) : List Byte :=
  [urgentByte x.urgent, syncByte x.sync, natByte x.seekHold, natByte x.snapHold, flagByte x.served]
    ++ flightBytes x.inFlight

/-- R190: the code of an entry state. -/
def EntryState.code (s : EntryState) : Nat :=
  match s with
  | .waiting => 1
  | .inFlight => 2

/-- R190: a send queue entry in four bytes. -/
def SendEntry.bytes (e : SendEntry) : List Byte :=
  [e.tag, natByte e.request.kind.code, natByte e.state.code, natByte e.attempts]

/-- R190: the Send Queue: the entries, and the two counts. -/
def SendQueue.bytes (q : SendQueue) : List Byte :=
  natByte q.entries.length :: q.entries.flatMap SendEntry.bytes
    ++ [natByte q.ownWaits.length, natByte q.waitCount]

/-- R190: the three bytes of the Event Queue. -/
def EventQueue.bytes (q : EventQueue) : List Byte :=
  [natByte q.records.length, natByte q.free, q.nextSequence]

/-- R190: the 16 bytes of the Policy Table. -/
def Policy.bytes (p : Policy) : List Byte :=
  bytes64 p.veto ++ bytes64 p.watch

/-- Table 10-7, R190: the READ_STATION reply data. -/
def State.stationReply (s : State) : List Byte :=
  s.controller.bytes ++ s.monitor.bytes ++ s.line.bytes
    ++ [natByte s.snapshot.loaded, natByte s.snapshot.stall] ++ s.selector.bytes
    ++ s.sendQueue.bytes ++ s.events.bytes ++ s.policy.bytes

/-- READ_STATION (R186). -/
def State.readStation (s : State) : Taken :=
  s.done s.stationReply

/-- VETO (R182). -/
def execVeto (zone flag : Byte) (s : State) : Host.Outcome State Fault Refusal :=
  .next (s.unlessReset
    (s.takeCommand (.known .veto) [zone, flag] (fun t => t.writeVeto zone flag)))

/-- WATCH (R183). -/
def execWatch (zone flag : Byte) (s : State) : Host.Outcome State Fault Refusal :=
  .next (s.unlessReset
    (s.takeCommand (.known .watch) [zone, flag] (fun t => t.writeWatch zone flag)))

/-- READ_ZONE (R184). -/
def execReadZone (zone : Byte) (s : State) : Host.Outcome State Fault Refusal :=
  .next (s.unlessReset (s.takeCommand (.known .readZone) [zone] (fun t => t.readZone zone)))

/-- READ_ROSTER (R185). -/
def execReadRoster (s : State) : Host.Outcome State Fault Refusal :=
  .next (s.unlessReset (s.takeCommand (.known .readRoster) [] State.readRoster))

/-- READ_STATION (R186). -/
def execReadStation (s : State) : Host.Outcome State Fault Refusal :=
  .next (s.unlessReset (s.takeCommand (.known .readStation) [] State.readStation))

end Sys2Proof.Machine
end

