-- ==== Sys2Proof/Machine/PortEdges.lean ====
section
/-! DEFINITION. The edges of the host port: CS#, the bytes of a transaction, an unknown command, and RST#
(R172, R173, R177, R192). -/

namespace Sys2Proof.Machine

/-- Parameter byte i of those received. -/
def param (params : List Byte) (i : Nat) : Byte :=
  params.getD i 0

/-- R174, Table 10-2: the command handed to the block that owns it. -/
def runCommand (c : HostCommand) (p : List Byte) (s : State) : Taken :=
  match c with
  | .configure => s.configure (param p 0) (param p 1) (param p 2) (param p 3) (param p 4)
  | .start => s.startStation
  | .stop => s.stopStation
  | .join => s.joinStation
  | .leave => s.leaveCluster
  | .claim => s.takeRequest (param p 0) (claimRequest (param p 1) (param p 2) (param p 3) (param p 4))
  | .renew => s.takeRequest (param p 0) (renewRequest (param p 1) (param p 2))
  | .release => s.takeRequest (param p 0) (releaseRequest (param p 1))
  | .cancel => s.takeRequest (param p 0) (cancelRequest (param p 1))
  | .note => s.takeRequest (param p 0) (noteRequest (param p 1) (param p 2) (p.drop 3))
  | .recall => s.recall (param p 0)
  | .veto => s.writeVeto (param p 0) (param p 1)
  | .watch => s.writeWatch (param p 0) (param p 1)
  | .readZone => s.readZone (param p 0)
  | .readRoster => s.readRoster
  | .readStation => s.readStation
  | .fetchEvent => s.fetchEvent
  | .ackEvent => s.ackEvent (param p 0)
  | .reset => s.resetBlocks.done []

/-- R177: the whole effect of an unknown command byte is its reply. -/
def State.unknownByte (s : State) : Taken :=
  s.refuse .unknownCommand

/-! ## CS# -/

/-- R172, R173: CS# falls: in IDLE a transaction begins. While RST# is low only the level is seen. -/
def State.csFalls (s : State) : State :=
  if s.port.rstLow then s.setPort { s.port with csLow := true }
  else if s.port.csLow then s
  else
    match s.port.phase with
    | .idle => s.setPort s.openPort
    | .command => s.setPort { s.port with csLow := true }
    | .parameters => s.setPort { s.port with csLow := true }
    | .reply => s.setPort { s.port with csLow := true }
    | .drained => s.setPort { s.port with csLow := true }

/-- CS_FALL (R173). -/
def execCsFall (s : State) : Host.Outcome State Fault Refusal :=
  .next s.csFalls

/-- R173, R177: CS# rises: the phase becomes IDLE, and what the transaction held is forgotten. -/
def State.csRises (s : State) : State :=
  if s.port.csLow then s.setPort { Port.cleared with rstLow := s.port.rstLow } else s

/-- CS_RISE (R177). -/
def execCsRise (s : State) : Host.Outcome State Fault Refusal :=
  .next s.csRises

/-! ## Bytes -/

/-- UNKNOWN_COMMAND (R177). A byte that stands for a command is none. -/
def execUnknownCommand (code : Byte) (s : State) : Host.Outcome State Fault Refusal :=
  .next (s.unlessReset
    (if HostCommand.ofCode code = none then s.takeCommand .unknown [] State.unknownByte else s))

/-- R173: the command byte decoded. -/
def State.commandByte (s : State) (code : Byte) : State :=
  match HostCommand.ofCode code with
  | some c =>
    if c.paramCount [] = 0 then s.takeCommand (.known c) [] (runCommand c [])
    else s.setPort { s.port with phase := .parameters, command := some (.known c) }
  | none => s.takeCommand .unknown [] State.unknownByte

/-- COMMAND_BYTE_COMPLETE (R173). -/
def execCommandByteComplete (code : Byte) (s : State) : Host.Outcome State Fault Refusal :=
  .next (s.unlessReset (if s.port.phase = .command then s.commandByte code else s))

/-- R173: a parameter byte of a command appended; the last one takes the command. -/
def State.paramByte (s : State) (c : HostCommand) (params : List Byte) : State :=
  if c.paramCount params ≤ params.length then s.takeCommand (.known c) params (runCommand c params)
  else s.setPort { s.port with parameters := params }

/-- R173: a parameter byte. -/
def State.parameterByte (s : State) (value : Byte) : State :=
  match s.port.phase, s.port.command with
  | .parameters, some (.known c) => s.paramByte c (s.port.parameters ++ [value])
  | _, _ => s

/-- PARAMETER_BYTE_COMPLETE (R173). -/
def execParameterByteComplete (value : Byte) (s : State) : Host.Outcome State Fault Refusal :=
  .next (s.unlessReset (s.parameterByte value))

/-- R176: the length of a captured reply in bytes. -/
def Port.replyLength (p : Port) : Nat :=
  match p.reply with
  | some r => r.bytes.length
  | none => 0

/-- R173: a reply byte shifted out. -/
def State.replyByte (s : State) : State :=
  if s.port.phase = .reply then
    s.setPort { s.port with
      replyPosition := s.port.replyPosition + 1
      phase := if s.port.replyLength ≤ s.port.replyPosition + 1 then .drained else .reply }
  else s

/-- REPLY_BYTE_COMPLETE (R173). -/
def execReplyByteComplete (s : State) : Host.Outcome State Fault Refusal :=
  .next (s.unlessReset s.replyByte)

/-! ## RST# -/

/-- R172, R192: the station at its hardware-reset value, RST# low, CS# at the level the host drives. The
queue of commands is the outside's and stands. A supply below 3.0 V acts as RST# would (R192); its recovery has
no row, so a reset of every cause is held as RST# low until RST_RELEASE (DESIGN CHOICE, assumption 15). -/
def State.powerReset (s : State) : State :=
  { State.reset with
    port := { Port.cleared with csLow := s.port.csLow, rstLow := true }
    pending := s.pending }

/-- HARDWARE_RESET (R192). -/
def execHardwareReset (s : State) : Host.Outcome State Fault Refusal :=
  .next s.powerReset

/-- R172, R192: RST# rises, or after a reset by the supply the supply reaches 3.0 V (assumption 15). -/
def State.releaseReset (s : State) : State :=
  s.setPort { s.port with rstLow := false }

/-- RST_RELEASE (R172). -/
def execRstRelease (s : State) : Host.Outcome State Fault Refusal :=
  .next s.releaseReset

end Sys2Proof.Machine
end

