-- ==== Sys2Proof/Machine/Dispatch.lean ====
section
/-! DEFINITION. One arm per command: each calls the command's own meaning. -/

namespace Sys2Proof.Machine

def exec (i : Instr) (s : State) : Host.Outcome State Fault Refusal :=
  match i with
  | .hardwareReset => Sys2Proof.Machine.execHardwareReset s
  | .rstRelease => Sys2Proof.Machine.execRstRelease s
  | .csFall => Sys2Proof.Machine.execCsFall s
  | .csRise => Sys2Proof.Machine.execCsRise s
  | .unknownCommand code => Sys2Proof.Machine.execUnknownCommand code s
  | .configure address silenceLimit formationWait retryLimit rejoin => Sys2Proof.Machine.execConfigure address silenceLimit formationWait retryLimit rejoin s
  | .start => Sys2Proof.Machine.execStart s
  | .stop => Sys2Proof.Machine.execStop s
  | .join => Sys2Proof.Machine.execJoin s
  | .leave => Sys2Proof.Machine.execLeave s
  | .claim tag zone mode wait duration => Sys2Proof.Machine.execClaim tag zone mode wait duration s
  | .renew tag zone duration => Sys2Proof.Machine.execRenew tag zone duration s
  | .release tag zone => Sys2Proof.Machine.execRelease tag zone s
  | .cancel tag zone => Sys2Proof.Machine.execCancel tag zone s
  | .note tag destination length data => Sys2Proof.Machine.execNote tag destination length data s
  | .recall tag => Sys2Proof.Machine.execRecall tag s
  | .veto zone flag => Sys2Proof.Machine.execVeto zone flag s
  | .watch zone flag => Sys2Proof.Machine.execWatch zone flag s
  | .readZone zone => Sys2Proof.Machine.execReadZone zone s
  | .readRoster => Sys2Proof.Machine.execReadRoster s
  | .readStation => Sys2Proof.Machine.execReadStation s
  | .fetchEvent => Sys2Proof.Machine.execFetchEvent s
  | .ackEvent sequence => Sys2Proof.Machine.execAckEvent sequence s
  | .reset => Sys2Proof.Machine.execReset s
  | .cycleMark => Sys2Proof.Machine.execCycleMark s
  | .leaseExpiry zone mark => Sys2Proof.Machine.execLeaseExpiry zone mark s
  | .earlyMark bit claimStart => Sys2Proof.Machine.execEarlyMark bit claimStart s
  | .lostMark => Sys2Proof.Machine.execLostMark s
  | .statusPoint slots => Sys2Proof.Machine.execStatusPoint slots s
  | .listenCheckPassed slots => Sys2Proof.Machine.execListenCheckPassed slots s
  | .formationWaitExpiry slots => Sys2Proof.Machine.execFormationWaitExpiry slots s
  | .evictionCandidate slots => Sys2Proof.Machine.execEvictionCandidate slots s
  | .divergence slots => Sys2Proof.Machine.execDivergence slots s
  | .selectionPoint => Sys2Proof.Machine.execSelectionPoint s
  | .arbitrationLoss bit => Sys2Proof.Machine.execArbitrationLoss bit s
  | .claimReadbackFault bit => Sys2Proof.Machine.execClaimReadbackFault bit s
  | .claimSegment read => Sys2Proof.Machine.execClaimSegment read s
  | .messageReadbackMismatch bit => Sys2Proof.Machine.execMessageReadbackMismatch bit s
  | .messageSegment bytes => Sys2Proof.Machine.execMessageSegment bytes s
  | .ownedBitMismatch bit => Sys2Proof.Machine.execOwnedBitMismatch bit s
  | .readbackFault bit => Sys2Proof.Machine.execReadbackFault bit s
  | .verdictPoint a b => Sys2Proof.Machine.execVerdictPoint a b s
  | .retryLimitReached a b => Sys2Proof.Machine.execRetryLimitReached a b s
  | .joinStall finish => Sys2Proof.Machine.execJoinStall finish s
  | .holdOffExpiry finish => Sys2Proof.Machine.execHoldOffExpiry finish s
  | .commandByteComplete code => Sys2Proof.Machine.execCommandByteComplete code s
  | .parameterByteComplete value => Sys2Proof.Machine.execParameterByteComplete value s
  | .replyByteComplete => Sys2Proof.Machine.execReplyByteComplete s

end Sys2Proof.Machine
end

