-- ==== Sys2Proof/Machine/Step.lean ====
section
/-! DEFINITION. One step: the command at the front of the queue, or one bit time when none waits. -/

namespace Sys2Proof.Machine

/-- One step of the block. The command at the front of the queue is taken from it and has its effect; with
no command waiting, one bit time of the line passes (R134). -/
def step (s : State) : Host.Outcome State Fault Refusal :=
  match s.pending with
  | [] => .next (bitTime s)
  | c :: rest => exec c (s.setPending rest)

/-- A command put at the front of the queue: the one a table word spells. The table gives no row bits, so
no word spells one, and the state stands. -/
def State.withFetchWord (s : State) (nbits w : Nat) : State :=
  match decodeTableWord nbits w with
  | some c => s.setPending (c :: s.pending)
  | none => s

end Sys2Proof.Machine
end

