-- ==== Sys2Proof/Safety.lean ====
section
/-! DEFINITION. What counts as a well-formed station: the forms the spec gives the event queue, the send
queue, the replica and the counts, as decidable conditions on a state. -/

namespace Sys2Proof.Machine

/-! ## The Event Queue -/

/-- Whether a record is an OVERFLOW record. -/
def EventRecord.isOverflow (r : EventRecord) : Bool :=
  match r with
  | .overflow _ => true
  | .result _ => false
  | .grant _ _ _ _ => false
  | .expire _ _ => false
  | .zone _ _ _ _ _ _ => false
  | .note _ _ => false
  | .state _ _ _ _ => false

/-- R163: a lost count is 1 to 255. -/
def EventRecord.lostFits (r : EventRecord) : Bool :=
  !r.isOverflow || (1 ≤ r.lostCount && r.lostCount ≤ Config.lostMax)

/-- R162: the records carry consecutive numbers that end just before the next sequence number. -/
def numbered (next : Byte) (records : List QueuedRecord) : Bool :=
  match records with
  | [] => true
  | q :: rest => q.sequence == next - natByte (rest.length + 1) && numbered next rest

/-- R160, R163: only the last record can be an OVERFLOW record. -/
def overflowLast (records : List QueuedRecord) : Bool :=
  records.dropLast.all (fun q => !q.record.isOverflow)

/-- R160, R163: with 32 records the last is an OVERFLOW record, and there are never more. -/
def recordsFit (records : List QueuedRecord) : Bool :=
  records.length ≤ Config.eventRoom ||
    (records.length == Config.eventRoom + 1 &&
      (match records.getLast? with
       | some q => q.record.isOverflow
       | none => false))

/-- R160: the fetched count is 0 unless the head is an OVERFLOW record, and never above its lost count. -/
def EventQueue.fetchedFits (q : EventQueue) : Bool :=
  match q.records with
  | head :: _ => q.fetched ≤ head.record.lostCount
  | [] => q.fetched == 0

/-- R160 to R163, R166: the form of the event queue. -/
def EventQueue.wf (q : EventQueue) : Bool :=
  recordsFit q.records && overflowLast q.records && numbered q.nextSequence q.records
    && q.records.all (fun x => x.record.lostFits) && q.fetchedFits

/-! ## The Send Queue -/

/-- R155, R157: the own waits list has no two records for one zone, and the wait count, which the records are
part of, is at most 16. -/
def SendQueue.waitsFit (q : SendQueue) : Bool :=
  (q.ownWaits.map OwnWait.zone).Nodup && q.waitCount ≤ Config.waitsCapacity

/-- R147, R155: at most eight entries, their tags distinct, and the form of the own waits list. -/
def SendQueue.wf (q : SendQueue) : Bool :=
  q.entries.length ≤ Config.sendQueueCapacity && (q.entries.map SendEntry.tag).Nodup && q.waitsFit

/-- R147: line requests wait only in SYNCED and LEAVING; elsewhere both lists are empty (Table 8-2). -/
def State.queueFits (s : State) : Bool :=
  s.station == .synced || s.station == .leaving || s.sendQueue == SendQueue.cleared

/-- R126: an entry in flight is the one the message in flight names. -/
def State.entriesFly (s : State) : Bool :=
  s.sendQueue.entries.all (fun e =>
    e.state == .waiting ||
      (match s.selector.inFlight with
       | some f => f.source == .entry e.tag
       | none => false))

/-- R121, R126, R133: a message is in flight only between a selection point and the following verdict
point, in a cycle whose claim-active flag is set. -/
def State.flightInCycle (s : State) : Bool :=
  s.selector.inFlight.isNone ||
    (s.line.claimActive && s.line.position.isBit && CyclePoint.selection.rank ≤ s.line.point.rank
      && s.line.point.rank < CyclePoint.verdict.rank)

/-- R126: the message in flight and the entry in flight belong together and to the cycle. -/
def State.flightFits (s : State) : Bool :=
  s.entriesFly && s.flightInCycle

/-! ## The replica -/

/-- R1, R2: the form of every entry of the zone table. -/
def ZoneTable.wf (t : ZoneTable) : Bool :=
  allZones.all (fun z => (t.get z).wf)

/-- The local states in which a station holds nothing of a cluster (R5, R56). -/
def StationState.isOutside (st : StationState) : Bool :=
  st == .offline || st == .standby || st == .seeking || st == .faulted

/-- R5, R56: outside the cluster the zone table and the roster are in their cleared values. -/
def State.clearedOutside (s : State) : Bool :=
  !s.station.isOutside || (s.zones == ZoneTable.cleared && s.roster == Roster.cleared)

/-- R106: while the station is SYNCED, its own roster role is MEMBER. -/
def State.memberWhenSynced (s : State) : Bool :=
  s.station != .synced || s.ownRole == .member

/-- R54, R106: the roster has its form, and a SYNCED station is a MEMBER in it. -/
def State.rosterFits (s : State) : Bool :=
  s.roster.wf && s.memberWhenSynced

/-! ## What the station drives -/

/-- R43, R115: outside the cluster no stance is taken. -/
def State.noStanceOutside (s : State) : Bool :=
  !s.station.isOutside || s.verdict.stance == .notTaken

/-- R118: in OFFLINE, STANDBY and FAULTED no message is in flight. -/
def State.noFlightIdle (s : State) : Bool :=
  s.station == .seeking || !s.station.isOutside || s.selector.inFlight == none

/-- R115, R138: in FAULTED no status slot is driven: fault entry ends the slot being driven. -/
def State.noSlotFaulted (s : State) : Bool :=
  s.station != .faulted || s.line.slotDrive == none

/-- R95, R115, R138: what a station outside the cluster may drive. -/
def State.silentFits (s : State) : Bool :=
  s.noStanceOutside && s.noFlightIdle && s.noSlotFaulted

/-! ## Ranges -/

/-- Table 5-2: the configuration record is at its defaults or as R178 lets a host give it. -/
def ConfigRecord.inRange (r : ConfigRecord) : Bool :=
  2 ≤ r.silenceLimit && r.silenceLimit ≤ 31 && 8 ≤ r.formationWait && r.formationWait ≤ 255
    && 1 ≤ r.retryLimit && r.retryLimit ≤ 15

/-- Table 5-1: the counts of the Station Controller. -/
def Controller.inRange (c : Controller) : Bool :=
  c.config.inRange && c.listen ≤ Config.listenCycles && c.formation ≤ Config.formationMax

/-- Table 3-4, R73: the counts of the Status Monitor. -/
def Monitor.inRange (m : Monitor) : Bool :=
  allAddrs.all (fun a => (m.peers.get a).silence ≤ Config.silenceMax
      && (m.peers.get a).mismatch ≤ Config.mismatchMax)
    && m.divergence < Config.divergenceLimit

/-- Table 8-1: the attempt counts. -/
def SendQueue.inRange (q : SendQueue) : Bool :=
  q.entries.all (fun e => e.attempts ≤ 15)

/-- R76: the counts of the Snapshot Engine. -/
def Snapshot.inRange (x : Snapshot) : Bool :=
  x.loaded ≤ Config.blockCount && x.stall ≤ Config.stallLimit

/-- Table 6-1: the hold-offs. -/
def Selector.inRange (x : Selector) : Bool :=
  x.seekHold ≤ Config.holdOffCycles && x.snapHold ≤ Config.holdOffCycles

/-- R146: the six line counters. -/
def LineCounters.inRange (c : LineCounters) : Bool :=
  c.commitsSeen ≤ Config.lineCounterMax && c.crcErrors ≤ Config.lineCounterMax
    && c.arbitrationLosses ≤ Config.lineCounterMax && c.copyDisagreements ≤ Config.lineCounterMax
    && c.markFaults ≤ Config.lineCounterMax && c.readbackMismatches ≤ Config.lineCounterMax

/-- R133, R136: a stretch position is 1 to 15. -/
def CyclePosition.inRange (p : CyclePosition) : Bool :=
  match p with
  | .waiting => true
  | .bit _ => true
  | .due => true
  | .stretch n => 1 ≤ n && n ≤ 15

/-- Table 7-1: the counts of the Line Interface. -/
def Line.inRange (l : Line) : Bool :=
  l.position.inRange && l.runCount < Config.readbackLimit && l.counters.inRange

/-- R91: a stall count that reaches 128 is join stall, which clears it; only DOUBT, which does not read it (R76),
may hold that value. -/
def State.stallBelow (s : State) : Bool :=
  s.station == .doubt || s.snapshot.stall < Config.stallLimit

/-- Every count of the station lies in the range the manual's tables give it. -/
def State.inRange (s : State) : Bool :=
  s.controller.inRange && s.monitor.inRange && s.snapshot.inRange && s.stallBelow
    && s.selector.inRange && s.line.inRange && s.sendQueue.inRange

/-! ## The port -/

/-- R172: while RST# is low the phase is IDLE, and in IDLE the record is empty; a transaction runs only
with CS# low. -/
def Port.wf (p : Port) : Bool :=
  match p.phase with
  | .idle => p.status == none && p.command == none && p.parameters == [] && p.reply == none
      && p.replyPosition == 0
  | .command => p.csLow && !p.rstLow && p.status.isSome && p.command == none && p.parameters == []
      && p.reply == none && p.replyPosition == 0
  | .parameters => p.csLow && !p.rstLow && p.status.isSome && p.command.isSome && p.reply == none
      && p.replyPosition == 0
  | .reply => p.csLow && !p.rstLow && p.status.isSome && p.command.isSome && p.reply.isSome
      && p.replyPosition < p.replyLength
  | .drained => p.csLow && !p.rstLow && p.status.isSome && p.command.isSome && p.reply.isSome
      && p.replyPosition == p.replyLength

/-- The whole form of a station: every invariant above together. -/
def State.wf (s : State) : Bool :=
  s.events.wf && s.sendQueue.wf && s.queueFits && s.flightFits && ZoneTable.wf s.zones
    && s.clearedOutside && s.rosterFits && s.silentFits && s.inRange && s.port.wf

/-! ## The terms statements use -/

/-- RST# is high. -/
abbrev State.running (s : State) : Prop :=
  s.port.rstLow = false

/-- The transaction of a row that names a host command: its command and parameter bytes (Table 10-2). -/
def transactionOf (i : Instr) : Option (PortCommand × List Byte) :=
  match i with
  | .unknownCommand _ => some (.unknown, [])
  | .configure a sl fw rl rj => some (.known .configure, [a, sl, fw, rl, rj])
  | .start => some (.known .start, [])
  | .stop => some (.known .stop, [])
  | .join => some (.known .join, [])
  | .leave => some (.known .leave, [])
  | .claim tag zone mode wait d => some (.known .claim, [tag, zone, mode, wait, d])
  | .renew tag zone d => some (.known .renew, [tag, zone, d])
  | .release tag zone => some (.known .release, [tag, zone])
  | .cancel tag zone => some (.known .cancel, [tag, zone])
  | .note tag destination length data =>
    some (.known .note, tag :: destination :: length :: data)
  | .recall tag => some (.known .recall, [tag])
  | .veto zone flag => some (.known .veto, [zone, flag])
  | .watch zone flag => some (.known .watch, [zone, flag])
  | .readZone zone => some (.known .readZone, [zone])
  | .readRoster => some (.known .readRoster, [])
  | .readStation => some (.known .readStation, [])
  | .fetchEvent => some (.known .fetchEvent, [])
  | .ackEvent n => some (.known .ackEvent, [n])
  | .reset => some (.known .reset, [])
  | .hardwareReset => none
  | .rstRelease => none
  | .csFall => none
  | .csRise => none
  | .cycleMark => none
  | .leaseExpiry _ _ => none
  | .earlyMark _ _ => none
  | .lostMark => none
  | .statusPoint _ => none
  | .listenCheckPassed _ => none
  | .formationWaitExpiry _ => none
  | .evictionCandidate _ => none
  | .divergence _ => none
  | .selectionPoint => none
  | .arbitrationLoss _ => none
  | .claimReadbackFault _ => none
  | .claimSegment _ => none
  | .messageReadbackMismatch _ => none
  | .messageSegment _ => none
  | .ownedBitMismatch _ => none
  | .readbackFault _ => none
  | .verdictPoint _ _ => none
  | .retryLimitReached _ _ => none
  | .joinStall _ => none
  | .holdOffExpiry _ => none
  | .commandByteComplete _ => none
  | .parameterByteComplete _ => none
  | .replyByteComplete => none

/-- Whether a row is an event of the host port's pins or bytes, with no command of its own. -/
def isPortEdge (i : Instr) : Bool :=
  i == .hardwareReset || i == .rstRelease || i == .csFall || i == .csRise || i == .replyByteComplete
    || (match i with
        | .commandByteComplete _ => true
        | .parameterByteComplete _ => true
        | _ => false)

/-- Whether a row is an event of the peer line. -/
def isLineEvent (i : Instr) : Bool :=
  (transactionOf i).isNone && !isPortEdge i

/-- The tag and the request of a line request row; the request is none when a parameter is out of range
(R148 step 2). -/
def lineRequest (i : Instr) : Option (Byte × Option Request) :=
  match i with
  | .claim tag zone mode wait d => some (tag, claimRequest zone mode wait d)
  | .renew tag zone d => some (tag, renewRequest zone d)
  | .release tag zone => some (tag, releaseRequest zone)
  | .cancel tag zone => some (tag, cancelRequest zone)
  | .note tag destination length data => some (tag, noteRequest destination length data)
  | _ => none

/-- A reply of OK with its data. -/
def okReply (data : List Byte) : Reply :=
  { code := .ok, data := data }

/-- A reply code with no data. -/
def codeReply (code : ReplyCode) : Reply :=
  { code := code, data := [] }

/-- The row of a mark. -/
def markRow (m : Mark) : Instr :=
  match m with
  | .timely => .cycleMark
  | .early bit claimStart => .earlyMark bit claimStart

/-- The row of the end of a cycle. -/
def endRow (e : CycleEnd) : Instr :=
  match e with
  | .verdict a b => .verdictPoint a b
  | .cut bit claimStart => .earlyMark bit claimStart

/-- The slot this station drives, if it drives one, read as driven. -/
def State.slotClean (s : State) (slots : Slots) : Prop :=
  ∀ d, s.line.slotDrive = some d → slotOf slots d.address = slotWord d

/-- The owned verdict bits as read do not bring the station to FAULTED before its verdict point (R145). -/
def State.survives (s : State) (a b : VerdictCopy) : Bool :=
  (s.readVerdict a b).station == s.station

/-- The records an entry to DOUBT or FAULTED places before its STATE record (R113, R115). -/
def State.abandonRecords (s : State) : List EventRecord :=
  (s.sendQueue.entries.filter SendEntry.flying).map SendEntry.lost
    ++ (s.sendQueue.entries.filter (fun e => !e.flying)).map SendEntry.withdrawn

/-- R109, R110: the event queue after a departure to STANDBY by a commit: the records given, the STATE record of the
departure, and with the rejoin flag on the STATE record of the way on into SEEKING. -/
def State.departureEvents (s : State) (records : List EventRecord) (reason : StateReason) : EventQueue :=
  let q := (records.foldl EventQueue.place s.events).place
    (.state s.station .standby reason s.heldZones)
  if s.controller.config.rejoin then q.place (.state .standby .seeking .rejoin 0) else q

/-- R119: an entry is URGENT and no older entry, of those given, names its zone. -/
def eligibleAfter (older : List SendEntry) (e : SendEntry) : Prop :=
  e.request.cls = .urgent ∧ ∀ x ∈ older, x.request.zone? ≠ e.request.zone?

/-- R33, R37, R39, Table 2-4: a member's objection reasons to a message, kind by kind. -/
def State.objectionReason (s : State) (sender : Addr) (b : Body) : Prop :=
  match b with
  | .found => True
  | .joinReq => s.roster.role sender ≠ .absent
  | .leave reason => s.roster.role sender = .absent ∨ (reason ≠ 1 ∧ reason ≠ 2)
  | .evict target reason =>
    s.roster.role target = .absent ∨ s.roster.role sender ≠ .member ∨ target = sender
      ∨ (reason ≠ 1 ∧ reason ≠ 2)
  | .claim zone mode _ _ =>
    s.roster.role sender ≠ .member ∨ 64 ≤ zone.toNat ∨ (mode ≠ 1 ∧ mode ≠ 2)
      ∨ (s.policy.veto.getLsbD zone.toNat = true ∧ s.own ≠ some sender)
  | .renew zone _ => s.roster.role sender ≠ .member ∨ 64 ≤ zone.toNat
  | .release zone => s.roster.role sender ≠ .member ∨ 64 ≤ zone.toNat
  | .cancel zone => s.roster.role sender ≠ .member ∨ 64 ≤ zone.toNat
  | .note destination length _ =>
    s.roster.role sender ≠ .member ∨ 17 ≤ destination.toNat ∨ length = 0 ∨ 13 ≤ length.toNat
  | .snap index _ =>
    s.roster.donor ≠ some sender ∨ s.roster.joiner = none
      ∨ s.roster.progress ≠ some index.toNat

/-- R40: a NOTE to this station, or to all members, that finds fewer than 4 free entries. -/
def State.noteWithheld (s : State) (b : Body) : Prop :=
  match b with
  | .note destination _ _ =>
    (destination = 16 ∨ (∃ a, s.own = some a ∧ destination.toNat = a.val)) ∧ s.events.free < 4
  | _ => False

/-- R20: the GRANT record of a zone that a commit grants to this station, with the tag of its own waits
record. -/
def State.grantOf (s : State) (own : Addr) (z : ZoneId) (c : ZoneChange) : List EventRecord :=
  if mem c.granted own then
    match s.sendQueue.ownWaits.find? (fun w => w.zone == z) with
    | some w => [.grant z (modeOfState c.entry.state) w.tag c.entry.generation]
    | none => []
  else []

/-- R26: the ZONE record of a watched zone whose state, holders, queue or generation a commit changed. -/
def State.zoneRecordOf (s : State) (z : ZoneId) (c : ZoneChange) : List EventRecord :=
  if s.policy.watch.getLsbD z.val = true
      ∧ ¬ ((s.zones.get z).state = c.entry.state ∧ (s.zones.get z).holders = c.entry.holders
        ∧ (s.zones.get z).queue = c.entry.queue
        ∧ (s.zones.get z).generation = c.entry.generation) then
    [.zone z c.entry.state c.entry.holders c.entry.queue.length c.entry.generation
      (s.roster.counter + 1)]
  else []

/-- R51: the NOTE record of a committed NOTE at a member it is for. -/
def noteRecordOf (own sender : Addr) (b : Body) : List EventRecord :=
  match b with
  | .note destination _ data =>
    if destination = 16 ∨ destination.toNat = own.val then [.note sender data] else []
  | _ => []

/-- R27, R50: the records a commit places at a member, zones ascending and the NOTE last; its own RESULT, when
it is the sender, comes before them. -/
def State.commitRecords (s : State) (own sender : Addr) (b : Body) : List EventRecord :=
  allZones.flatMap (fun z =>
      s.grantOf own z (zoneEffect s.roster sender b z (s.zones.get z))
        ++ s.zoneRecordOf z (zoneEffect s.roster sender b z (s.zones.get z)))
    ++ noteRecordOf own sender b

/-- R20, R156: the own waits list without the zones that a commit grants to this station. -/
def State.waitsLeft (s : State) (own sender : Addr) (b : Body) (waits : List OwnWait) :
    List OwnWait :=
  waits.filter (fun w =>
    !mem (zoneEffect s.roster sender b w.zone (s.zones.get w.zone)).granted own)

/-- The station stands before the verdict point of a cycle whose message it has read intact, with both copies
deciding it committed, and it does not come to FAULTED at its verdict bits. -/
def State.readsCommit (s : State) (a b : VerdictCopy) (sender : Addr) (k : Kind) (body : Body) :
    Prop :=
  s.running ∧ s.canMake .verdict = true ∧ s.survives a b = true
    ∧ (∃ cls, s.verdict.claim = some (.winner cls sender))
    ∧ (∃ bytes, s.line.receive = some bytes ∧ kindOf bytes = some k
        ∧ bodyOf k (payloadOf bytes) = body)
    ∧ s.line.intact = some true ∧ s.commits a = true ∧ s.commits b = true

/-- R68: a slot as read that shows SYNCED, DOUBT or JOINING. -/
def showsCluster (w : BitVec 16) : Prop :=
  w.getLsbD 15 = false ∧ (slotMode w = .synced ∨ slotMode w = .doubt ∨ slotMode w = .joining)

/-- R70: an address is an eviction candidate for the reason given, SILENT coming before MISMATCH. -/
def State.isCandidate (s : State) (a : Addr) (reason : EvictReason) : Prop :=
  s.own ≠ some a ∧ s.roster.role a ≠ .absent ∧ (s.monitor.peers.get a).refused = false
    ∧ (match reason with
       | .silent => s.controller.config.silenceLimit ≤ (s.monitor.peers.get a).silence
       | .mismatch => (s.monitor.peers.get a).silence < s.controller.config.silenceLimit
           ∧ 2 ≤ (s.monitor.peers.get a).mismatch)

/-- R73: the other MEMBERs whose slot as read shows SYNCED. -/
def State.syncedPeers (s : State) (slots : Slots) : List Addr :=
  (List.finRange 16).filter (fun a =>
    s.own != some a && s.roster.role a == .member && !(slots.get a).getLsbD 15
      && slotMode (slots.get a) == .synced)

/-- R73: those of them whose counter field differs from the station's counter. -/
def State.differingPeers (s : State) (slots : Slots) : List Addr :=
  (s.syncedPeers slots).filter (fun a =>
    (slots.get a).extractLsb' 0 12 != s.roster.counter.extractLsb' 0 12)

/-- R44, Table 2-5: an address is in the required set of a message of the sender and the fields given, the fields
being none where the kind cannot be read. -/
def Roster.requires (r : Roster) (sender : Addr) (b : Option Body) (x : Addr) : Prop :=
  match b with
  | some .found => x = sender
  | some (.leave _) => x ≠ sender ∧ (r.role x = .member ∨ r.role x = .joining)
  | some (.evict target _) => x ≠ target ∧ (r.role x = .member ∨ r.role x = .joining)
  | _ => r.role x = .member ∨ r.role x = .joining

/-- R45: the station holds a roster to decide with; in DOUBT it is one with a MEMBER (assumption 25). -/
def State.decidesByRoster (s : State) : Prop :=
  s.station = .synced ∨ (s.station = .joining ∧ 1 ≤ s.snapshot.loaded)
    ∨ (s.station = .leaving ∧ (s.ownRole = .member ∨ 1 ≤ s.snapshot.loaded))
    ∨ (s.station = .doubt ∧ ∃ x, s.roster.role x = .member)

/-- R32, R47: the message the station decides on, in 20 bytes, and its sender: the one it read, and for a sender in
SEEKING or DOUBT that did not read its own intact, the one it sent. -/
def State.decidesOn (s : State) (sender : Addr) (bytes : MessageBytes) : Prop :=
  (∃ cls, s.verdict.claim = some (.winner cls sender) ∧ s.line.receive = some bytes
      ∧ (s.line.intact = some true ∨ (s.station ≠ .seeking ∧ s.station ≠ .doubt)
        ∨ ∀ m, s.selector.inFlight = some m → m.claim ≠ .won))
    ∨ (s.line.intact ≠ some true ∧ (s.station = .seeking ∨ s.station = .doubt)
        ∧ ∃ m, s.selector.inFlight = some m ∧ m.claim = .won ∧ m.message = bytes
            ∧ senderOf bytes = sender)

/-- The fields of a message in 20 bytes, none where its kind cannot be read. -/
def fieldsOf (bytes : MessageBytes) : Option Body :=
  (kindOf bytes).map (fun k => bodyOf k (payloadOf bytes))

/-- R36: a member that applies commits: SYNCED, or LEAVING with own role MEMBER in a roster of its form. -/
def State.appliesAsMember (s : State) : Prop :=
  s.station = .synced ∨ (s.station = .leaving ∧ s.ownRole = .member ∧ s.roster.wf = true)

/-- The two copies give different decisions (R46, R47). -/
def State.copiesDiffer (s : State) (a b : VerdictCopy) : Prop :=
  s.commits a ≠ s.commits b

end Sys2Proof.Machine
end

