-- ==== Sys2Proof/WellFormed.lean ====
section
/-! DEFINITION. What a command term must meet to name an event that can happen. -/

namespace Sys2Proof

/-- A command is well formed when its operands fit together:
a NOTE carries as many data bytes as its length byte makes it take (R179);
an UNKNOWN_COMMAND byte stands for no command (R173);
a COMMAND_BYTE_COMPLETE byte stands for a command that has parameters (R173);
an arbitration loss is not at the start bit, which every contender drives dominant (R122);
an owned bit lies in the status segment or in a verdict copy (R144). -/
def Instr.wellFormed (i : Instr) : Bool :=
  match i with
  | .note _ _ length data => 3 + data.length == noteParams length
  | .unknownCommand code => (HostCommand.ofCode code).isNone
  | .commandByteComplete code =>
    match HostCommand.ofCode code with
    | some c => c.paramCount [] != 0
    | none => false
  | .arbitrationLoss bit => bit.val != 0
  | .ownedBitMismatch bit => bit.val < 256 || (436 ≤ bit.val && bit.val < 500)
  | .readbackFault bit => bit.val < 256 || (436 ≤ bit.val && bit.val < 500)
  | .hardwareReset => true
  | .rstRelease => true
  | .csFall => true
  | .csRise => true
  | .configure _ _ _ _ _ => true
  | .start => true
  | .stop => true
  | .join => true
  | .leave => true
  | .claim _ _ _ _ _ => true
  | .renew _ _ _ => true
  | .release _ _ => true
  | .cancel _ _ => true
  | .recall _ => true
  | .veto _ _ => true
  | .watch _ _ => true
  | .readZone _ => true
  | .readRoster => true
  | .readStation => true
  | .fetchEvent => true
  | .ackEvent _ => true
  | .reset => true
  | .cycleMark => true
  | .leaseExpiry _ _ => true
  | .earlyMark _ _ => true
  | .lostMark => true
  | .statusPoint _ => true
  | .listenCheckPassed _ => true
  | .formationWaitExpiry _ => true
  | .evictionCandidate _ => true
  | .divergence _ => true
  | .selectionPoint => true
  | .claimReadbackFault _ => true
  | .claimSegment _ => true
  | .messageReadbackMismatch _ => true
  | .messageSegment _ => true
  | .verdictPoint _ _ => true
  | .retryLimitReached _ _ => true
  | .joinStall _ => true
  | .holdOffExpiry _ => true
  | .parameterByteComplete _ => true
  | .replyByteComplete => true

end Sys2Proof
end

