-- ==== Sys2Proof/Certificates/Slice0/Obligations.lean ====
section
/-! DEFINITION. The statements for the provers: what each command does where it completes, what it leaves
unchanged, the forms every step keeps, and the layouts read back. A point of the line cycle may be made with
earlier points of its cycle left out (assumption 3). -/

open Sys2Proof Sys2Proof.Machine

/-! ## The machine -/

/-- Step takes the command at the front of the queue and runs it on the rest. -/
def Obligations.StepTakesFrontCommand : Prop :=
  ∀ (c : Instr) (rest : List Instr) (s : State),
    step (s.setPending (c :: rest)) = exec c (s.setPending rest)

/-- Every row answers a next state, and leaves the queue of commands as it was. That a row whose event cannot
happen in the state answers the state unchanged is the model's choice (assumption 19), and so it is for a host
command out of turn (assumption 2) and for a point made or passed already (assumption 3). -/
def Obligations.EveryRowAnswersNext : Prop :=
  ∀ (c : Instr) (s : State), ∃ t, exec c s = .next t ∧ t.pending = s.pending

/-- The state after reset holds the hardware-reset values of the manual's tables. -/
def Obligations.ResetHoldsTableValues : Prop :=
  State.reset.controller =
      { station := .offline, configured := false
        config := { address := none, silenceLimit := 6, formationWait := 32, retryLimit := 4
                    rejoin := false }
        listen := 0, formation := 0, lastEviction := none }
  ∧ (∀ z, State.reset.zones.get z =
      { state := .free, holders := 0, remaining := none, generation := 0, queue := [] })
  ∧ (∀ a, State.reset.roster.role a = .absent)
  ∧ State.reset.roster.joinQueue = [] ∧ State.reset.roster.progress = none
  ∧ State.reset.roster.counter = 0
  ∧ (∀ a, State.reset.monitor.peers.get a =
      { lastMode := none, lastCounter := 0, silence := 0, mismatch := 0, refused := false })
  ∧ State.reset.monitor.divergence = 0
  ∧ State.reset.snapshot = { sending := none, loaded := 0, stall := 0 }
  ∧ State.reset.selector =
      { urgent := none, sync := none, seekHold := 0, snapHold := 0, served := false
        inFlight := none }
  ∧ State.reset.verdict.stance = .notTaken
  ∧ State.reset.verdict.copyA = { accept := 0, object := 0 }
  ∧ State.reset.verdict.copyB = { accept := 0, object := 0 }
  ∧ State.reset.sendQueue = { entries := [], ownWaits := [] }
  ∧ State.reset.events = { records := [], nextSequence := 0, fetched := 0 }
  ∧ State.reset.policy = { veto := 0, watch := 0 }
  ∧ State.reset.line.position = .waiting ∧ State.reset.line.claimActive = false
  ∧ State.reset.line.prevClaimActive = false ∧ State.reset.line.receive = none
  ∧ State.reset.line.intact = none ∧ State.reset.line.runCount = 0
  ∧ State.reset.line.counters =
      { commitsSeen := 0, crcErrors := 0, arbitrationLosses := 0, copyDisagreements := 0
        markFaults := 0, readbackMismatches := 0 }
  ∧ State.reset.port.phase = .idle ∧ State.reset.port.status = none
  ∧ State.reset.port.command = none ∧ State.reset.port.parameters = []
  ∧ State.reset.port.reply = none ∧ State.reset.port.replyPosition = 0

/-! ## Pins and bytes of the host port -/

/-- HARDWARE_RESET puts every block in its reset value with PLD, EVT# and SDO released; RST_RELEASE lets the
station run from there with nothing else changed; while RST# is low nothing but RST# and the level of CS#
reaches the station.
That RST# low keeps every other row without effect is the model's reading (assumption 19); that HARDWARE_RESET of
any cause, a low supply too, leaves RST# low and CS# at its level until RST_RELEASE is its choice (assumption 15). -/
def Obligations.ResetPin : Prop :=
  ((∀ s : State, exec .hardwareReset s =
     .next { State.reset with
       port := { Port.cleared with csLow := s.port.csLow, rstLow := true }, pending := s.pending })
   ∧ (∀ (s t : State) (bit : Fin 512), exec .hardwareReset s = .next t →
       t.pldDominant bit = false ∧ t.evtLow = false ∧ t.sdoDriven = false)
   ∧ (∀ s : State, exec .rstRelease s = .next (s.setPort { s.port with rstLow := false })))
  ∧ ((∀ (c : Instr) (s : State), s.port.rstLow = true → c ≠ .hardwareReset → c ≠ .rstRelease →
       c ≠ .csFall → c ≠ .csRise → exec c s = .next s)
     ∧ (∀ s : State, s.port.rstLow = true →
         exec .csFall s = .next (s.setPort { s.port with csLow := true }))
     ∧ (∀ s : State, s.port.rstLow = true → s.port.csLow = true →
         exec .csRise s = .next (s.setPort { Port.cleared with rstLow := true })))

/-- CS_FALL in IDLE opens a transaction with the port status byte; a CS# already low opens none; CS_RISE
forgets the transaction whatever its phase.
That a CS_FALL with CS# already low has no effect is the model's choice (assumption 19), and so is the whole record
emptied at CS_RISE (assumption 18). -/
def Obligations.ChipSelectEdges : Prop :=
  (∀ s : State, s.running → s.port.csLow = false → s.port.phase = .idle →
    exec .csFall s = .next (s.setPort
      { phase := .command
        status := some
          { station := s.controller.station
            eventPending := !s.events.records.isEmpty
            queueFull := s.sendQueue.entries.length == 8
            queueEmpty := s.sendQueue.entries.isEmpty
            certain := s.certain
            configured := s.controller.configured }
        command := none, parameters := [], reply := none, replyPosition := 0
        csLow := true, rstLow := false }))
  ∧ (∀ s : State, s.running → s.port.csLow = true → exec .csFall s = .next s)
  ∧ (∀ s : State, s.running → s.port.csLow = true →
      exec .csRise s = .next (s.setPort
        { phase := .idle, status := none, command := none, parameters := [], reply := none
          replyPosition := 0, csLow := false, rstLow := false }))

/-- COMMAND_BYTE_COMPLETE of a command with parameters, PARAMETER_BYTE_COMPLETE before the last one,
REPLY_BYTE_COMPLETE, and UNKNOWN_COMMAND.
That a command row may stand for its whole transaction is the model's choice (assumption 2). -/
def Obligations.TransactionBytes : Prop :=
  (∀ (s : State) (code : Byte) (c : HostCommand), s.running → s.port.phase = .command →
    HostCommand.ofCode code = some c → c.paramCount [] ≠ 0 →
    exec (.commandByteComplete code) s =
      .next (s.setPort { s.port with phase := .parameters, command := some (.known c) }))
  ∧ (∀ (s : State) (value : Byte) (c : HostCommand), s.running → s.port.phase = .parameters →
      s.port.command = some (.known c) →
      s.port.parameters.length + 1 < c.paramCount (s.port.parameters ++ [value]) →
      exec (.parameterByteComplete value) s =
        .next (s.setPort { s.port with parameters := s.port.parameters ++ [value] }))
  ∧ (∀ s : State, s.running → s.port.phase = .reply →
      exec .replyByteComplete s =
        .next (s.setPort { s.port with
          replyPosition := s.port.replyPosition + 1
          phase :=
            if s.port.replyLength ≤ s.port.replyPosition + 1 then .drained else .reply }))
  ∧ (∀ (s : State) (code : Byte) (p : Port), s.running → HostCommand.ofCode code = none →
      s.readyPort .unknown [] = some p →
      exec (.unknownCommand code) s =
        .next (s.setPort (p.answer .unknown [] (codeReply .unknownCommand))))

/-- A command sent byte by byte is taken at its last byte with the effect of its own row. -/
def Obligations.BytesTakeTheSameCommand : Prop :=
  (∀ (i : Instr) (c : HostCommand) (received : List Byte) (last : Byte) (s : State),
    i.wellFormed = true → transactionOf i = some (.known c, received ++ [last]) → s.running →
    s.port.phase = .parameters → s.port.command = some (.known c) →
    s.port.parameters = received → exec (.parameterByteComplete last) s = exec i s)
  ∧ (∀ (i : Instr) (c : HostCommand) (code : Byte) (s : State),
      i.wellFormed = true → transactionOf i = some (.known c, []) → s.running →
      s.port.phase = .command → HostCommand.ofCode code = some c →
      exec (.commandByteComplete code) s = exec i s)

/-- A command that the transaction has come to is taken at one point: the port holds the whole reply from
there, and a reply code other than OK has no data.
That a command row may stand for its whole transaction is the model's choice (assumption 2). -/
def Obligations.CommandsAnswerAtOnePoint : Prop :=
  ∀ (i : Instr) (c : PortCommand) (params : List Byte) (s : State) (p : Port),
    i.wellFormed = true → transactionOf i = some (c, params) → s.running →
    s.readyPort c params = some p →
    ∃ (r : Reply) (t : State), exec i s = .next t ∧ t.port = p.answer c params r
      ∧ (r.code ≠ .ok → r.data = [])

/-- A command that the transaction in progress cannot come to has no effect. The model's own choice
(assumption 2). -/
def Obligations.CommandsOutOfTurnHaveNoEffect : Prop :=
  ∀ (i : Instr) (c : PortCommand) (params : List Byte) (s : State),
    transactionOf i = some (c, params) → s.readyPort c params = none → exec i s = .next s

/-! ## Station commands -/

/-- CONFIGURE: the record replaced whole in OFFLINE with every field in range; RANGE; STATE.
That a command row may stand for its whole transaction is the model's choice (assumption 2). -/
def Obligations.ConfigureCommand : Prop :=
  ∀ (s : State) (p : Port) (a sl fw rl rj : Byte), s.running →
    s.readyPort (.known .configure) [a, sl, fw, rl, rj] = some p →
    (s.station = .offline → ∀ h : a.toNat < 16, 2 ≤ sl.toNat → sl.toNat ≤ 31 → 8 ≤ fw.toNat →
      1 ≤ rl.toNat → rl.toNat ≤ 15 →
      exec (.configure a sl fw rl rj) s = .next
        ((s.setController
            { s.controller with
              configured := true
              config := { address := some ⟨a.toNat, h⟩, silenceLimit := sl.toNat
                          formationWait := fw.toNat, retryLimit := rl.toNat
                          rejoin := rj != 0 } }).setPort
          (p.answer (.known .configure) [a, sl, fw, rl, rj] (okReply []))))
    ∧ (s.station = .offline →
        (16 ≤ a.toNat ∨ sl.toNat < 2 ∨ 31 < sl.toNat ∨ fw.toNat < 8 ∨ rl.toNat < 1 ∨ 15 < rl.toNat) →
        exec (.configure a sl fw rl rj) s = .next
          (s.setPort (p.answer (.known .configure) [a, sl, fw, rl, rj] (codeReply .range))))
    ∧ (s.station ≠ .offline →
        exec (.configure a sl fw rl rj) s = .next
          (s.setPort (p.answer (.known .configure) [a, sl, fw, rl, rj] (codeReply .state))))

/-- START: STANDBY with listen count 0 and its STATE record, in OFFLINE when configured; STATE otherwise.
STOP: OFFLINE at once from STANDBY and FAULTED, with the counts, the eviction reason, the peer watch
and the run count cleared and the record kept, the slot being driven from the mark left to its end; STATE
otherwise.
That a command row may stand for its whole transaction is the model's choice (assumption 2); that START ends a
slot still being driven, and STOP does not, is its reading (assumption 14). -/
def Obligations.StartAndStopCommands : Prop :=
  (∀ (s : State) (p : Port), s.running → s.readyPort (.known .start) [] = some p →
    (s.station = .offline → s.controller.configured = true →
      exec .start s = .next
        ((((s.setController { s.controller with station := .standby, listen := 0 }).setLine
            { s.line with slotDrive := none }).setEvents
            (s.events.place (.state .offline .standby .command s.heldZones))).setPort
          (p.answer (.known .start) [] (okReply []))))
    ∧ (s.station ≠ .offline ∨ s.controller.configured = false →
        exec .start s = .next (s.setPort (p.answer (.known .start) [] (codeReply .state)))))
  ∧ (∀ (s : State) (p : Port), s.running → s.readyPort (.known .stop) [] = some p →
      (s.station = .standby ∨ s.station = .faulted →
        ∃ t, exec .stop s = .next t
          ∧ t.controller =
              { s.controller with station := .offline, listen := 0, formation := 0
                                  lastEviction := none }
          ∧ t.monitor = Monitor.cleared ∧ t.line.runCount = 0
          ∧ t.line.counters = s.line.counters ∧ t.line.position = s.line.position
          ∧ t.line.slotDrive = s.line.slotDrive
          ∧ t.events = s.events.place (.state s.station .offline .command s.heldZones)
          ∧ t.zones = s.zones ∧ t.roster = s.roster ∧ t.sendQueue = s.sendQueue
          ∧ t.policy = s.policy ∧ t.selector = s.selector ∧ t.snapshot = s.snapshot
          ∧ t.port = p.answer (.known .stop) [] (okReply []))
      ∧ (s.station ≠ .standby → s.station ≠ .faulted →
          exec .stop s = .next (s.setPort (p.answer (.known .stop) [] (codeReply .state)))))

/-- A step on an empty queue is one bit time of the line with no mark and no other station driving. The position
advances by one through bits 0 to 511, the bit time of the expected mark and stretch 1 to 15; the points of the
cycle are made at bits 255, 259 to 260, 266, 431 and 499 with what the line then carries; the sixteenth bit time
after bit 511 without a mark is a lost mark; WAITING stands.
That a bit time is the step on an empty queue, and that no other station drives in it, is the model's choice
(assumption 5). -/
def Obligations.BitTimeAdvances : Prop :=
  ∀ s : State, s.running → s.pending = [] →
    (s.line.position = .waiting → step s = .next s)
    ∧ (∀ n : Fin 512, s.line.position = .bit n →
        ∃ t, step s = .next t
          ∧ t.line.position =
              (if h : n.val + 1 < 512 then CyclePosition.bit ⟨n.val + 1, h⟩ else .due)
          ∧ (n.val < 255 ∨ (255 < n.val ∧ n.val < 259) ∨ (259 < n.val ∧ n.val < 266) →
              t = s.setPosition (bitAfter n))
          ∧ (s.line.point = .verdict → 266 ≤ n.val → t = s.setPosition (bitAfter n))
          ∧ (n.val = 255 → ∃ u, exec (.statusPoint s.quietSlots) s = .next u
              ∧ t = u.setPosition (bitAfter n))
          ∧ (n.val = 259 → exec .selectionPoint (s.setPosition (bitAfter n)) = .next t)
          ∧ (n.val = 266 → ∃ u, exec (.claimSegment s.quietClaim) s = .next u
              ∧ t = u.setPosition (bitAfter n))
          ∧ (n.val = 431 → ∃ u, exec (.messageSegment s.quietMessage) s = .next u
              ∧ t = u.setPosition (bitAfter n))
          ∧ (n.val = 499 → ∃ u, exec (.verdictPoint s.quietCopyA s.quietCopyB) s = .next u
              ∧ t = u.setPosition (bitAfter n)))
    ∧ (s.line.position = .due → step s = .next (s.setPosition (.stretch 1)))
    ∧ (∀ k, s.line.position = .stretch k → k < 15 →
        step s = .next (s.setPosition (.stretch (k + 1))))
    ∧ (s.line.position = .stretch 15 → step s = exec .lostMark s)

/-- JOIN: SEEKING from STANDBY with listen count 2, entered as R102 gives, with its STATE record; STATE
otherwise, and nothing changes.
That a command row may stand for its whole transaction is the model's choice (assumption 2). -/
def Obligations.JoinCommand : Prop :=
  ∀ (s : State) (p : Port), s.running → s.readyPort (.known .join) [] = some p →
    (s.station = .standby → s.controller.listen = 2 →
      exec .join s = .next
        { s with
          controller := { s.controller with station := .seeking, formation := 0 }
          roster :=
            { roles := Vector.replicate 16 .absent, joinQueue := [], progress := none
              counter := 0 }
          selector := { s.selector with sync := none, seekHold := 0 }
          events := s.events.place (.state .standby .seeking .command s.heldZones)
          port := p.answer (.known .join) [] (okReply []) })
    ∧ (s.station ≠ .standby ∨ s.controller.listen ≠ 2 →
        exec .join s = .next (s.setPort (p.answer (.known .join) [] (codeReply .state))))

/-- LEAVE. In SEEKING: STANDBY with nothing in flight, INFLIGHT otherwise. In SYNCED and JOINING: LEAVING at
once, entries not in flight withdrawn in queue order before the STATE record, the entry and the message in
flight, the replica and the own waits list kept. In the other states: STATE.
That a command row may stand for its whole transaction is the model's choice (assumption 2). -/
def Obligations.LeaveCommand : Prop :=
  (∀ (s : State) (p : Port), s.running → s.readyPort (.known .leave) [] = some p →
     (s.station = .seeking → s.selector.inFlight = none →
       ∃ t, exec .leave s = .next t
         ∧ t.controller = { s.controller with station := .standby, formation := 0 }
         ∧ t.zones = ZoneTable.cleared ∧ t.roster = Roster.cleared ∧ t.selector = Selector.cleared
         ∧ t.snapshot = Snapshot.cleared ∧ t.sendQueue = SendQueue.cleared
         ∧ t.events =
             ((s.sendQueue.entries.map SendEntry.withdrawn).foldl EventQueue.place s.events).place
               (.state .seeking .standby .command s.heldZones)
         ∧ t.policy = s.policy ∧ t.line = s.line
         ∧ t.port = p.answer (.known .leave) [] (okReply []))
     ∧ (s.station = .seeking → s.selector.inFlight ≠ none →
         exec .leave s = .next (s.setPort (p.answer (.known .leave) [] (codeReply .inflight))))
     ∧ (s.station ≠ .seeking → s.station ≠ .joining → s.station ≠ .synced →
         exec .leave s = .next (s.setPort (p.answer (.known .leave) [] (codeReply .state)))))
  ∧ (∀ (s : State) (p : Port), s.running → s.readyPort (.known .leave) [] = some p →
       s.station = .synced ∨ s.station = .joining →
       ∃ t, exec .leave s = .next t
         ∧ t.controller = { s.controller with station := .leaving }
         ∧ t.sendQueue =
             { s.sendQueue with entries := s.sendQueue.entries.filter SendEntry.flying }
         ∧ t.events =
             (((s.sendQueue.entries.filter (fun e => !e.flying)).map SendEntry.withdrawn).foldl
                 EventQueue.place s.events).place
               (.state s.station .leaving .command s.heldZones)
         ∧ t.selector = { s.selector with urgent := none, sync := none }
         ∧ t.monitor = { s.monitor with divergence := 0 }
         ∧ t.zones = s.zones ∧ t.roster = s.roster ∧ t.snapshot = s.snapshot
         ∧ t.verdict = s.verdict ∧ t.line = s.line ∧ t.policy = s.policy
         ∧ t.port = p.answer (.known .leave) [] (okReply []))

/-- RESET: every block but the Host Port at its hardware-reset value, the configuration record and flag
kept, no record placed, EVT# released and PLD no longer driven.
That a command row may stand for its whole transaction is the model's choice (assumption 2). -/
def Obligations.ResetCommand : Prop :=
  ∀ (s : State) (p : Port), s.running → s.readyPort (.known .reset) [] = some p →
    ∃ t, exec .reset s = .next t
      ∧ t = { State.reset with
          controller :=
            { Controller.cleared with
              configured := s.controller.configured, config := s.controller.config }
          port := p.answer (.known .reset) [] (okReply [])
          pending := s.pending }
      ∧ t.evtLow = false ∧ (∀ bit, t.pldDominant bit = false)

/-! ## Line requests -/

/-- The line requests refused: which parameters are out of range (R148 step 2); the first check of R148 that
fails gives the reply, and nothing else changes.
That a command row may stand for its whole transaction is the model's choice (assumption 2). -/
def Obligations.LineRequestRefused : Prop :=
  ((∀ zone mode wait d : Byte, claimRequest zone mode wait d = none ↔
     64 ≤ zone.toNat ∨ (mode.toNat ≠ 1 ∧ mode.toNat ≠ 2))
   ∧ (∀ zone d : Byte, renewRequest zone d = none ↔ 64 ≤ zone.toNat)
   ∧ (∀ zone : Byte, releaseRequest zone = none ↔ 64 ≤ zone.toNat)
   ∧ (∀ zone : Byte, cancelRequest zone = none ↔ 64 ≤ zone.toNat)
   ∧ (∀ (destination length : Byte) (data : List Byte),
       noteRequest destination length data = none ↔
         17 ≤ destination.toNat ∨ length.toNat = 0 ∨ 13 ≤ length.toNat))
  ∧ (∀ (i : Instr) (tag : Byte) (r : Option Request) (c : PortCommand) (params : List Byte) (s : State)
       (p : Port),
       i.wellFormed = true → transactionOf i = some (c, params) → lineRequest i = some (tag, r) →
       s.running → s.readyPort c params = some p →
       (s.station ≠ .synced →
         exec i s = .next (s.setPort (p.answer c params (codeReply .state))))
       ∧ (s.station = .synced → r = none →
           exec i s = .next (s.setPort (p.answer c params (codeReply .range))))
       ∧ (s.station = .synced → r ≠ none → 8 ≤ s.sendQueue.entries.length →
           exec i s = .next (s.setPort (p.answer c params (codeReply .full))))
       ∧ (s.station = .synced → r ≠ none → s.sendQueue.entries.length < 8 →
           s.sendQueue.tagInUse tag = true →
           exec i s = .next (s.setPort (p.answer c params (codeReply .tagInUse))))
       ∧ (∀ q, r = some q → s.station = .synced → s.sendQueue.entries.length < 8 →
           s.sendQueue.tagInUse tag = false → s.sendQueue.duplicates q = true →
           exec i s = .next (s.setPort (p.answer c params (codeReply .duplicate))))
       ∧ (∀ q, r = some q → s.station = .synced → s.sendQueue.entries.length < 8 →
           s.sendQueue.tagInUse tag = false → s.sendQueue.duplicates q = false →
           q.waitFlag = true → 16 ≤ s.sendQueue.waitCount →
           exec i s = .next (s.setPort (p.answer c params (codeReply .waitsFull)))))

/-- CLAIM, RENEW, RELEASE, CANCEL and NOTE: with every check passed the entry joins at the tail with
attempts 0, WAITING, and nothing else changes.
That a command row may stand for its whole transaction is the model's choice (assumption 2). -/
def Obligations.LineRequestAccepted : Prop :=
  ∀ (i : Instr) (tag : Byte) (r : Request) (c : PortCommand) (params : List Byte) (s : State)
    (p : Port),
    i.wellFormed = true → transactionOf i = some (c, params) →
    lineRequest i = some (tag, some r) → s.running → s.readyPort c params = some p →
    s.station = .synced → s.sendQueue.entries.length < 8 →
    (∀ e ∈ s.sendQueue.entries, e.tag ≠ tag) →
    (∀ z m w d, r = .claim z m w d →
      ∀ e ∈ s.sendQueue.entries, ∀ m' w' d', e.request ≠ .claim z m' w' d') →
    (r.waitFlag = true → s.sendQueue.waitCount < 16) →
    exec i s = .next
      ((s.setSendQueue { s.sendQueue with
          entries := s.sendQueue.entries ++
            [{ tag := tag, request := r, attempts := 0, state := .waiting }] }).setPort
        (p.answer c params (okReply [])))

/-- RECALL: a WAITING entry leaves with no record; an entry in flight gives INFLIGHT; no entry gives
NOT_FOUND.
That a command row may stand for its whole transaction is the model's choice (assumption 2). -/
def Obligations.RecallCommand : Prop :=
  ∀ (s : State) (p : Port) (tag : Byte), s.running →
    s.readyPort (.known .recall) [tag] = some p →
    (∀ e, s.sendQueue.find tag = some e → e.state = .waiting →
      exec (.recall tag) s = .next
        ((s.setSendQueue { s.sendQueue with
            entries := s.sendQueue.entries.filter (fun x => x.tag != tag) }).setPort
          (p.answer (.known .recall) [tag] (okReply []))))
    ∧ (∀ e, s.sendQueue.find tag = some e → e.state = .inFlight →
        exec (.recall tag) s = .next
          (s.setPort (p.answer (.known .recall) [tag] (codeReply .inflight))))
    ∧ ((∀ e ∈ s.sendQueue.entries, e.tag ≠ tag) →
        exec (.recall tag) s = .next
          (s.setPort (p.answer (.known .recall) [tag] (codeReply .notFound))))

/-! ## Policy, reading, events -/

/-- VETO and WATCH: the flag of the zone takes the value given and the reply carries the value before;
every other flag stands; a zone of 64 or more gives RANGE.
That a command row may stand for its whole transaction is the model's choice (assumption 2). -/
def Obligations.PolicyCommands : Prop :=
  ∀ (s : State) (p : Port) (zone flag : Byte), s.running →
    (∀ h : zone.toNat < 64, s.readyPort (.known .veto) [zone, flag] = some p →
      ∃ v : ZoneFlags,
        exec (.veto zone flag) s = .next
          ((s.setPolicy { s.policy with veto := v }).setPort
            (p.answer (.known .veto) [zone, flag]
              (okReply [if s.policy.veto.getLsbD zone.toNat then 1 else 0])))
        ∧ ∀ z : ZoneId, zoneFlag v z =
            if z = ⟨zone.toNat, h⟩ then flag != 0 else zoneFlag s.policy.veto z)
    ∧ (∀ h : zone.toNat < 64, s.readyPort (.known .watch) [zone, flag] = some p →
        ∃ v : ZoneFlags,
          exec (.watch zone flag) s = .next
            ((s.setPolicy { s.policy with watch := v }).setPort
              (p.answer (.known .watch) [zone, flag]
                (okReply [if s.policy.watch.getLsbD zone.toNat then 1 else 0])))
          ∧ ∀ z : ZoneId, zoneFlag v z =
              if z = ⟨zone.toNat, h⟩ then flag != 0 else zoneFlag s.policy.watch z)
    ∧ (64 ≤ zone.toNat → s.readyPort (.known .veto) [zone, flag] = some p →
        exec (.veto zone flag) s = .next
          (s.setPort (p.answer (.known .veto) [zone, flag] (codeReply .range))))
    ∧ (64 ≤ zone.toNat → s.readyPort (.known .watch) [zone, flag] = some p →
        exec (.watch zone flag) s = .next
          (s.setPort (p.answer (.known .watch) [zone, flag] (codeReply .range))))

/-- READ_ZONE, READ_ROSTER and READ_STATION: a reply of 19, of 17 and of 120 + 4n data bytes that carries every
field of Tables 10-5, 10-6 and 10-7 as it stands at the taking, and no change but the port's; STATE and RANGE
where a read is refused.
That the flags of READ_STATION are bytes of 0 or 1 is the model's reading (assumption 16).
That a command row may stand for its whole transaction is the model's choice (assumption 2). -/
def Obligations.ReadCommands : Prop :=
  (∀ (s : State) (p : Port) (zone : Byte), s.running →
     s.readyPort (.known .readZone) [zone] = some p →
     (s.station = .synced ∨ s.station = .leaving ∨ s.station = .doubt → ∀ h : zone.toNat < 64,
       ∃ (data waiters : List Byte) (flags : Byte),
         exec (.readZone zone) s =
           .next (s.setPort (p.answer (.known .readZone) [zone] (okReply data)))
         ∧ data =
             [zone, natByte (s.zones.get ⟨zone.toNat, h⟩).state.code]
               ++ bytes16 (s.zones.get ⟨zone.toNat, h⟩).holders
               ++ bytes16 (remainingCode (s.zones.get ⟨zone.toNat, h⟩).remaining)
               ++ [(s.zones.get ⟨zone.toNat, h⟩).generation,
                   natByte (s.zones.get ⟨zone.toNat, h⟩).queue.length]
               ++ waiters ++ bytes16 s.roster.counter ++ [flags]
         ∧ waiters.length = 8
         ∧ (∀ i : Fin 4,
             (∀ w, (s.zones.get ⟨zone.toNat, h⟩).queue[i.val]? = some w →
               waiters.getD (2 * i.val) 0 = BitVec.ofNat 8 (w.station.val * 16 + w.mode.code)
               ∧ waiters.getD (2 * i.val + 1) 0 = w.duration)
             ∧ ((s.zones.get ⟨zone.toNat, h⟩).queue[i.val]? = none →
                 waiters.getD (2 * i.val) 0 = 0 ∧ waiters.getD (2 * i.val + 1) 0 = 0))
         ∧ flags < 8
         ∧ flags.getLsbD 2 =
             (match s.ownRole with
              | .member => true
              | .joining => decide (zone.toNat + 2 ≤ s.snapshot.loaded)
              | .queued => decide (zone.toNat + 2 ≤ s.snapshot.loaded)
              | .absent => false)
         ∧ flags.getLsbD 1 = s.policy.veto.getLsbD zone.toNat
         ∧ flags.getLsbD 0 = s.policy.watch.getLsbD zone.toNat)
     ∧ (s.station = .synced ∨ s.station = .leaving ∨ s.station = .doubt → 64 ≤ zone.toNat →
         exec (.readZone zone) s =
           .next (s.setPort (p.answer (.known .readZone) [zone] (codeReply .range))))
     ∧ (s.station ≠ .synced → s.station ≠ .leaving → s.station ≠ .doubt →
         exec (.readZone zone) s =
           .next (s.setPort (p.answer (.known .readZone) [zone] (codeReply .state)))))
  ∧ (∀ (s : State) (p : Port), s.running → s.readyPort (.known .readRoster) [] = some p →
       (s.station = .synced ∨ s.station = .leaving ∨ s.station = .doubt →
         ∃ data roles queue : List Byte,
           exec .readRoster s =
             .next (s.setPort (p.answer (.known .readRoster) [] (okReply data)))
           ∧ data =
               [if s.ownRole = .absent then 0 else 1] ++ roles
                 ++ [natByte s.roster.joinQueue.length] ++ queue
                 ++ [match s.roster.progress with | some n => natByte n | none => 0xFF,
                     match s.roster.donor with | some a => natByte a.val | none => 0xFF]
                 ++ bytes16 s.roster.counter
           ∧ roles.length = 4 ∧ queue.length = 7
           ∧ (∀ a : Addr,
               (roles.getD (a.val / 4) 0).toNat / 4 ^ (3 - a.val % 4) % 4 = (s.roster.role a).code)
           ∧ (∀ i : Fin 7,
               queue.getD i.val 0 =
                 BitVec.ofNat 8
                   (((s.roster.joinQueue[2 * i.val]?).map Fin.val).getD 0 * 16
                     + ((s.roster.joinQueue[2 * i.val + 1]?).map Fin.val).getD 0)))
       ∧ (s.station ≠ .synced → s.station ≠ .leaving → s.station ≠ .doubt →
           exec .readRoster s =
             .next (s.setPort (p.answer (.known .readRoster) [] (codeReply .state)))))
  ∧ (∀ (s : State) (p : Port), s.running → s.readyPort (.known .readStation) [] = some p →
       ∃ data : List Byte,
         exec .readStation s =
           .next (s.setPort (p.answer (.known .readStation) [] (okReply data)))
         ∧ data.length = 120 + 4 * s.sendQueue.entries.length
         ∧ data =
             [natByte s.station.code, if s.controller.configured then 1 else 0,
              match s.own with | some a => natByte a.val | none => 0xFF,
              natByte s.controller.config.silenceLimit, natByte s.controller.config.formationWait,
              natByte s.controller.config.retryLimit, if s.controller.config.rejoin then 1 else 0,
              natByte s.controller.listen, natByte s.controller.formation,
              match s.controller.lastEviction with
              | none => 0
              | some .silent => 1
              | some .mismatch => 2]
             ++ [natByte s.monitor.divergence]
             ++ (List.finRange 16).flatMap (fun a =>
                  [match (s.monitor.peers.get a).lastMode with
                   | some m => natByte m.code
                   | none => 0xFF]
                  ++ bytes16 ((s.monitor.peers.get a).lastCounter.setWidth 16)
                  ++ [natByte ((s.monitor.peers.get a).silence * 8
                        + (s.monitor.peers.get a).mismatch * 2
                        + (if (s.monitor.peers.get a).refused then 1 else 0))])
             ++ [if s.line.position = .waiting then 1 else 0, natByte s.line.runCount]
             ++ ([s.line.counters.commitsSeen, s.line.counters.crcErrors,
                  s.line.counters.arbitrationLosses, s.line.counters.copyDisagreements,
                  s.line.counters.markFaults, s.line.counters.readbackMismatches].flatMap
                  (fun n => bytes16 (BitVec.ofNat 16 n)))
             ++ [natByte s.snapshot.loaded, natByte s.snapshot.stall]
             ++ [match s.selector.urgent with
                 | none => 0
                 | some (.leave _) => 4
                 | some (.evict _ _) => 5,
                 match s.selector.sync with
                 | none => 0
                 | some .found => 1
                 | some .joinReq => 2
                 | some (.snap _) => 3,
                 natByte s.selector.seekHold, natByte s.selector.snapHold,
                 if s.selector.served then 1 else 0,
                 match s.selector.inFlight with
                 | none => 0
                 | some m => natByte m.kind.code,
                 match s.selector.inFlight with
                 | none => 0
                 | some m => if m.claim = .won then 2 else 1]
             ++ [natByte s.sendQueue.entries.length]
             ++ s.sendQueue.entries.flatMap (fun e =>
                  [e.tag, natByte e.request.kind.code, if e.state = .inFlight then 2 else 1,
                   natByte e.attempts])
             ++ [natByte s.sendQueue.ownWaits.length, natByte s.sendQueue.waitCount]
             ++ [natByte s.events.records.length, natByte s.events.free, s.events.nextSequence]
             ++ bytes64 s.policy.veto ++ bytes64 s.policy.watch)

/-- FETCH_EVENT: the head record whole, the queue unchanged, the fetched count the lost count of an OVERFLOW
head and 0 otherwise; EMPTY on an empty queue. ACK_EVENT: the head leaves when the number is its own, an
OVERFLOW head with records not yet told of leaving their count in a new OVERFLOW; MISMATCH and EMPTY change
nothing.
That a command row may stand for its whole transaction is the model's choice (assumption 2). -/
def Obligations.FetchAndAckEvent : Prop :=
  (∀ (s : State) (p : Port), s.running → s.readyPort (.known .fetchEvent) [] = some p →
     (∀ head rest, s.events.records = head :: rest →
       exec .fetchEvent s = .next
         ((s.setEvents { s.events with fetched := head.record.lostCount }).setPort
           (p.answer (.known .fetchEvent) [] (okReply (queuedBytes head)))))
     ∧ (s.events.records = [] →
         exec .fetchEvent s = .next
           (s.setPort (p.answer (.known .fetchEvent) [] (codeReply .empty)))))
  ∧ (∀ (s : State) (p : Port) (n : Byte), s.running → s.readyPort (.known .ackEvent) [n] = some p →
       (∀ head rest, s.events.records = head :: rest → n = head.sequence →
         head.record.lostCount ≤ s.events.fetched →
         exec (.ackEvent n) s = .next
           ((s.setEvents { s.events with records := rest, fetched := 0 }).setPort
             (p.answer (.known .ackEvent) [n] (okReply []))))
       ∧ (∀ head rest, s.events.records = head :: rest → n = head.sequence →
           s.events.fetched < head.record.lostCount →
           exec (.ackEvent n) s = .next
             ((s.setEvents
                 { records := rest ++
                     [{ sequence := s.events.nextSequence
                        record := .overflow (head.record.lostCount - s.events.fetched) }]
                   nextSequence := s.events.nextSequence + 1
                   fetched := 0 }).setPort
               (p.answer (.known .ackEvent) [n] (okReply []))))
       ∧ (∀ head rest, s.events.records = head :: rest → n ≠ head.sequence →
           exec (.ackEvent n) s = .next
             (s.setPort (p.answer (.known .ackEvent) [n] (codeReply .mismatch))))
       ∧ (s.events.records = [] →
           exec (.ackEvent n) s = .next
             (s.setPort (p.answer (.known .ackEvent) [n] (codeReply .empty)))))

/-! ## What the peer line leaves alone -/

/-- The events of the peer line change neither the Policy Table nor the Host Port nor the configuration
record and its flag. -/
def Obligations.LineEventsKeepHostSide : Prop :=
  ∀ (i : Instr) (s t : State), isLineEvent i = true → exec i s = .next t →
    t.policy = s.policy ∧ t.port = s.port ∧ t.controller.config = s.controller.config
      ∧ t.controller.configured = s.controller.configured ∧ t.pending = s.pending

/-- A row that names a limit has the effect of its own point where the limit is reached there, and no
effect elsewhere. The model's own choice (assumption 1). -/
def Obligations.LimitRowsAreTheirPoints : Prop :=
  ∀ s : State, s.running →
    (∀ z m, exec (.leaseExpiry z m) s =
      if s.expiresAt z m then exec (markRow m) s else .next s)
    ∧ (∀ slots, exec (.listenCheckPassed slots) s =
        if s.passesListening slots then exec (.statusPoint slots) s else .next s)
    ∧ (∀ slots, exec (.formationWaitExpiry slots) s =
        if s.reachesWait slots then exec (.statusPoint slots) s else .next s)
    ∧ (∀ slots, exec (.evictionCandidate slots) s =
        if s.hasCandidate slots then exec (.statusPoint slots) s else .next s)
    ∧ (∀ slots, exec (.divergence slots) s =
        if s.diverges slots then exec (.statusPoint slots) s else .next s)
    ∧ (∀ bit, exec (.readbackFault bit) s =
        if s.faultsAt bit then exec (.ownedBitMismatch bit) s else .next s)
    ∧ (∀ a b, exec (.retryLimitReached a b) s =
        if s.canMake .verdict && (s.reachVerdict a b).exhausts a b then exec (.verdictPoint a b) s
        else .next s)
    ∧ (∀ e, exec (.joinStall e) s = if s.stallsAt e then exec (endRow e) s else .next s)
    ∧ (∀ e, exec (.holdOffExpiry e) s = if s.holdOffEnds e then exec (endRow e) s else .next s)

/-! ## Cycle marks -/

/-- CYCLE_MARK: a new cycle at bit 0, the claim-active flag copied and cleared, the receive register and
the verdict emptied, the expiry pass over the active zones, the slot of the cycle taken, and the roster,
the local state, the duties, the peer watch and the line counters unchanged. A clean slot that awaited a stance
sets the run count to 0 when the cycle ends without one.
That the row is a timely mark wherever no claim of the cycle is unjudged, also at bits 0 to 511 by the station's
own position, the remaining points of the cycle being left out, is the model's choice (assumptions 6 and 3), and
so is the point at which the run count is set (assumption 8). -/
def Obligations.CycleMarkOpensCycle : Prop :=
  ∀ s : State, s.running → s.claimUnjudged = false →
    ∃ t, exec .cycleMark s = .next t
      ∧ t.line.position = .bit 0 ∧ t.line.point = .mark
      ∧ t.line.prevClaimActive = s.line.claimActive ∧ t.line.claimActive = false
      ∧ t.line.receive = none ∧ t.line.intact = none
      ∧ t.verdict = { stance := .notTaken, copyA := emptyCopy, copyB := emptyCopy, claim := none }
      ∧ (∀ z, t.zones.get z =
          if s.zoneActive z then (expireZone (s.zones.get z)).entry else s.zones.get z)
      ∧ t.line.slotDrive = s.slotFromMark
      ∧ t.roster = s.roster ∧ t.controller = s.controller ∧ t.selector = s.selector
      ∧ t.snapshot = s.snapshot ∧ t.monitor.peers = s.monitor.peers
      ∧ t.monitor.divergence = s.monitor.divergence ∧ t.line.counters = s.line.counters
      ∧ t.line.runCount =
          (if s.line.cleanPending = true ∧ s.verdict.stance = .notTaken then 0 else s.line.runCount)
      ∧ t.sendQueue.entries = s.sendQueue.entries

/-- The expiry pass on one entry: a FREE entry and an UNLIMITED lease are passed over, a finite value
decreases by one, and a value of 1 ends the lease for every holder, with a grant from the queue. The grant:
an empty queue leaves the zone FREE with its generation, an EXCLUSIVE head takes it alone, and a SHARED head
takes the leading SHARED run with it, one generation for the run and the largest of its durations the
remaining value (R19). -/
def Obligations.ExpiryAndGrantOfZone : Prop :=
  ((∀ e : ZoneEntry, e.state = .free → expireZone e = { entry := e, granted := 0, expired := 0 })
   ∧ (∀ e : ZoneEntry, e.remaining = some .unlimited →
       expireZone e = { entry := e, granted := 0, expired := 0 })
   ∧ (∀ (e : ZoneEntry) (n : Nat), e.state ≠ .free → e.remaining = some (.cycles n) → 2 ≤ n →
       expireZone e =
         { entry := { e with remaining := some (.cycles (n - 1)) }, granted := 0, expired := 0 })
   ∧ (∀ e : ZoneEntry, e.state ≠ .free → e.remaining = some (.cycles 1) →
       (expireZone e).expired = e.holders
       ∧ (expireZone e).entry = (grantFromQueue e.generation e.queue).entry
       ∧ (expireZone e).granted = (grantFromQueue e.generation e.queue).granted))
  ∧ (∀ g : Byte,
       grantFromQueue g [] =
         { entry := { state := .free, holders := 0, remaining := none, generation := g, queue := [] }
           granted := 0, expired := 0 }
       ∧ (∀ a d rest, grantFromQueue g ({ station := a, mode := .exclusive, duration := d } :: rest) =
           { entry := { state := .exclusive, holders := single a, remaining := some (durationValue d)
                        generation := g + 1, queue := rest }
             granted := single a, expired := 0 })
       ∧ (∀ a d rest x,
           (grantFromQueue g ({ station := a, mode := .shared, duration := d } :: rest)).entry.state
               = .shared
           ∧ (grantFromQueue g
               ({ station := a, mode := .shared, duration := d } :: rest)).entry.generation = g + 1
           ∧ (grantFromQueue g
               ({ station := a, mode := .shared, duration := d } :: rest)).entry.queue
                 = rest.dropWhile (fun w => w.mode == .shared)
           ∧ (mem (grantFromQueue g
                 ({ station := a, mode := .shared, duration := d } :: rest)).entry.holders x = true ↔
               x = a ∨ ∃ w ∈ rest.takeWhile (fun w => w.mode == .shared), w.station = x))
       ∧ (∀ a d rest, ∃ m,
           (grantFromQueue g
               ({ station := a, mode := .shared, duration := d } :: rest)).entry.remaining = some m
           ∧ larger m (durationValue d) = m
           ∧ (∀ w ∈ rest.takeWhile (fun w => w.mode == .shared),
               larger m (durationValue w.duration) = m)
           ∧ (m = durationValue d ∨ ∃ w ∈ rest.takeWhile (fun w => w.mode == .shared),
               m = durationValue w.duration)))

/-- LEASE_EXPIRY at a timely mark: an active zone whose value is 1 becomes FREE and is granted from its
queue, and a station that held it and reports leases places EXPIRE with the ended generation.
That the row of a limit is the point that reaches it is the model's choice (assumption 1). -/
def Obligations.LeaseExpiryEndsLease : Prop :=
  ∀ (z : ZoneId) (s : State), s.running → s.claimUnjudged = false → s.zoneActive z = true →
    (s.zones.get z).state ≠ .free → (s.zones.get z).remaining = some (.cycles 1) →
    ∃ (t : State) (records : List EventRecord),
      exec (.leaseExpiry z .timely) s = .next t
      ∧ t.zones.get z = (grantFromQueue (s.zones.get z).generation (s.zones.get z).queue).entry
      ∧ ((s.zones.get z).queue = [] →
          t.zones.get z =
            { state := .free, holders := 0, remaining := none
              generation := (s.zones.get z).generation, queue := [] })
      ∧ t.events = records.foldl EventQueue.place s.events
      ∧ (∀ a, s.own = some a → s.reportsLeases = true → mem (s.zones.get z).holders a = true →
          EventRecord.expire z (s.zones.get z).generation ∈ records)

/-- EARLY_MARK that cuts a cycle with no claim, before its end for the blocks that count cycles: counted as a
mark fault and a new cycle begun, the local state, the roster and the send queue's requests standing. One
that cuts a cycle with a claim, in SYNCED, LEAVING or JOINING: DOUBT with reason MARK_FAULT, the entry in
flight UNKNOWN, the others withdrawn, the replica and the roster frozen. The cut cycle counts one more for the stall
count of an acquiring station (R91), and DOUBT keeps it.
The order of the cut's effects before the new cycle, the doubt before a join stall too, is the model's choice
(assumption 7). -/
def Obligations.EarlyMarkCutsCycle : Prop :=
  (∀ (bit : Fin 512) (claimStart : Level) (s : State), s.running → s.markIsEarly = true →
     s.line.claimActive = false →
     (s.line.point.rank < CyclePoint.claim.rank → 260 < bit.val → claimStart = .recessive) →
     s.stallDue = false →
     ∃ t, exec (.earlyMark bit claimStart) s = .next t
       ∧ t.line.position = .bit 0 ∧ t.line.prevClaimActive = false ∧ t.line.claimActive = false
       ∧ t.line.counters =
           { s.line.counters with markFaults := min (s.line.counters.markFaults + 1) 65535 }
       ∧ t.controller = s.controller ∧ t.roster = s.roster
       ∧ t.monitor.peers = s.monitor.peers ∧ t.selector.inFlight = none
       ∧ t.selector.urgent = s.selector.urgent ∧ t.selector.sync = s.selector.sync
       ∧ t.sendQueue.entries.map SendEntry.tag = s.sendQueue.entries.map SendEntry.tag)
  ∧ (∀ (bit : Fin 512) (claimStart : Level) (s : State), s.running → s.markIsEarly = true →
       s.line.claimActive = true → s.canDoubt = true →
       ∃ t, exec (.earlyMark bit claimStart) s = .next t
         ∧ t.station = .doubt ∧ t.line.position = .bit 0 ∧ t.line.prevClaimActive = true
         ∧ t.line.counters =
             { s.line.counters with markFaults := min (s.line.counters.markFaults + 1) 65535 }
         ∧ t.zones = s.zones ∧ t.roster = s.roster ∧ t.sendQueue = SendQueue.cleared
         ∧ t.events =
             (s.abandonRecords.foldl EventQueue.place s.events).place
               (.state s.station .doubt .markFault s.heldZones)
         ∧ t.selector =
             { urgent := none, sync := none, seekHold := 0, snapHold := 0
               served := s.selector.served, inFlight := none }
         ∧ t.snapshot.loaded = s.snapshot.loaded
         ∧ t.snapshot.stall =
             if s.acquiring = true ∧ s.line.point ≠ .verdict then min (s.snapshot.stall + 1) 128
             else s.snapshot.stall)

/-- LOST_MARK: counted; DOUBT with reason MARK_FAULT when the claim-active flag is set in SYNCED, LEAVING
or JOINING, and the local state standing otherwise; WAITING from there on. In WAITING none can be lost.
That the row names the sixteenth bit time after bit 511 from every position but WAITING, the bit times before it
being left out and what is in flight dropped, is the model's choice (assumption 27), and so is no effect in
WAITING (assumption 19). -/
def Obligations.LostMarkWaits : Prop :=
  ∀ s : State, s.running →
    (s.line.position ≠ .waiting → s.line.claimActive = true → s.canDoubt = true →
      ∃ t, exec .lostMark s = .next t
        ∧ t.station = .doubt ∧ t.line.position = .waiting ∧ t.zones = s.zones
        ∧ t.roster = s.roster
        ∧ t.line.counters =
            { s.line.counters with markFaults := min (s.line.counters.markFaults + 1) 65535 }
        ∧ t.events =
            (s.abandonRecords.foldl EventQueue.place s.events).place
              (.state s.station .doubt .markFault s.heldZones)
        ∧ ∀ bit, t.pldDominant bit = false)
    ∧ (s.line.position ≠ .waiting → s.line.claimActive = false ∨ s.canDoubt = false →
        ∃ t, exec .lostMark s = .next t
          ∧ t.controller = s.controller ∧ t.line.position = .waiting ∧ t.zones = s.zones
          ∧ t.roster = s.roster ∧ t.events = s.events ∧ t.monitor = s.monitor
          ∧ t.line.counters =
              { s.line.counters with markFaults := min (s.line.counters.markFaults + 1) 65535 }
          ∧ ∀ bit, t.pldDominant bit = false)
    ∧ (s.line.position = .waiting → exec .lostMark s = .next s)

/-! ## The status point -/

/-- STATUS_POINT: each peer record takes its slot as read, the slot-derived set is the addresses that
showed SYNCED, DOUBT or JOINING, the mismatch counts follow the roster roles where the station applies a roster
and are 0 elsewhere (R69), and the replica and the roster are unchanged. A station in the listening check counts
an absent own slot and enters FAULTED on a present one (R99). A slot driven and read otherwise adds one to the
run count, or at its third cycle takes the station to FAULTED (R144, R145); a slot read clean sets the count to 0
at a station that takes no stance, and leaves it standing at one that may.
That such a station's count waits for the claim segment is the model's choice (assumption 8); that the point itself
finds the misread slot (assumption 4), and that the mismatch counts are 0 from an entry to DOUBT at this point
(assumption 21), are its readings. -/
def Obligations.StatusPointReadsSlots : Prop :=
  (∀ (slots : Slots) (s : State), s.running → s.canMake .status = true → s.ownsBits = true →
    s.slotClean slots → (s.station = .standby → s.controller.listen = 2) →
    ∃ t, exec (.statusPoint slots) s = .next t
      ∧ (∀ a : Addr, (slots.get a).getLsbD 15 = false →
          (t.monitor.peers.get a).lastMode = some (slotMode (slots.get a))
          ∧ (t.monitor.peers.get a).lastCounter = (slots.get a).extractLsb' 0 12
          ∧ (t.monitor.peers.get a).silence = 0)
      ∧ (∀ a : Addr, (slots.get a).getLsbD 15 = true →
          (t.monitor.peers.get a).lastMode = none
          ∧ (t.monitor.peers.get a).lastCounter = (s.monitor.peers.get a).lastCounter
          ∧ (t.monitor.peers.get a).silence = min ((s.monitor.peers.get a).silence + 1) 31)
      ∧ (∀ a : Addr, mem t.monitor.slotDerived a = true ↔
          (slots.get a).getLsbD 15 = false
          ∧ (slotMode (slots.get a) = .synced ∨ slotMode (slots.get a) = .doubt
            ∨ slotMode (slots.get a) = .joining))
      ∧ (∀ a : Addr, s.appliesRoster = true → t.station = s.station →
          (t.monitor.peers.get a).mismatch =
            if s.roster.role a = .absent then 0
            else if (slots.get a).getLsbD 15 = true then (s.monitor.peers.get a).mismatch
            else if (s.roster.role a = .member ∧ slotMode (slots.get a) = .synced)
                ∨ (s.roster.role a ≠ .member ∧ slotMode (slots.get a) = .joining) then 0
            else min ((s.monitor.peers.get a).mismatch + 1) 3)
      ∧ (∀ a : Addr, s.appliesRoster = false ∨ t.station ≠ s.station →
          (t.monitor.peers.get a).mismatch = 0)
      ∧ (∀ d, s.line.slotDrive = some d → s.line.mismatchSeen = false →
          t.line.runCount = if s.takesStance then s.line.runCount else 0)
      ∧ t.line.counters = s.line.counters
      ∧ t.zones = s.zones ∧ t.roster = s.roster)
  ∧ (∀ (slots : Slots) (s : State) (own : Addr), s.running → s.canMake .status = true →
      s.station = .standby → s.controller.listen < 2 → s.line.slotDrive = none →
      s.own = some own →
      ((slots.get own).getLsbD 15 = true →
        ∃ t, exec (.statusPoint slots) s = .next t
          ∧ t.controller = { s.controller with listen := s.controller.listen + 1 }
          ∧ t.events = s.events)
      ∧ ((slots.get own).getLsbD 15 = false →
          ∃ t, exec (.statusPoint slots) s = .next t
            ∧ t.station = .faulted ∧ t.monitor = Monitor.cleared
            ∧ t.events =
                (s.abandonRecords.foldl EventQueue.place s.events).place
                  (.state .standby .faulted .addressInUse s.heldZones)))
  ∧ (∀ (slots : Slots) (s : State) (d : SlotDrive), s.running → s.canMake .status = true →
      s.ownsBits = true → s.line.slotDrive = some d → slotOf slots d.address ≠ slotWord d →
      s.line.mismatchSeen = false → (s.station = .standby → s.controller.listen = 2) →
      (s.line.runCount < 2 →
        ∃ t, exec (.statusPoint slots) s = .next t
          ∧ t.line.runCount = s.line.runCount + 1
          ∧ t.line.counters =
              { s.line.counters with
                readbackMismatches := min (s.line.counters.readbackMismatches + 1) 65535 })
      ∧ (s.line.runCount = 2 →
          ∃ t, exec (.statusPoint slots) s = .next t
            ∧ t.station = .faulted ∧ t.zones = ZoneTable.cleared ∧ t.roster = Roster.cleared
            ∧ t.line.runCount = 0 ∧ t.line.slotDrive = none
            ∧ t.events =
                (s.abandonRecords.foldl EventQueue.place s.events).place
                  (.state s.station .faulted .readbackFault s.heldZones)))

/-- LISTEN_CHECK_PASSED: the second listening cycle with the own slot absent brings the count to 2, and the
station drives the STANDBY slot from the next mark; FORMATION_WAIT_EXPIRY: the count that reaches the
formation wait with no cluster slot makes the seeking duty FOUND. At every STATUS_POINT in SEEKING a cluster slot
makes the formation count 0 and the duty JOIN_REQ; with none the count is one more, and the duty FOUND from the
formation wait on and none below it (R102).
That the row of a limit is the point that reaches it is the model's choice (assumption 1). -/
def Obligations.ListeningAndFormationEnd : Prop :=
  (∀ (slots : Slots) (s : State) (a : Addr), s.running → s.canMake .status = true →
    s.station = .standby → s.controller.listen = 1 → s.line.slotDrive = none →
    s.own = some a → (slots.get a).getLsbD 15 = true →
    ∃ t, exec (.listenCheckPassed slots) s = .next t
      ∧ t.controller = { s.controller with listen := 2 }
      ∧ t.slotFromMark =
          some { address := a, mode := .standby, counter := s.roster.counter.extractLsb' 0 12 }
      ∧ t.events = s.events)
  ∧ (∀ (slots : Slots) (s : State), s.running → s.canMake .status = true →
      s.station = .seeking → s.slotClean slots → clusterSlots slots = 0 →
      s.controller.formation + 1 = s.controller.config.formationWait →
      s.controller.config.formationWait ≤ 255 →
      ∃ t, exec (.formationWaitExpiry slots) s = .next t
        ∧ t.controller = { s.controller with formation := s.controller.config.formationWait }
        ∧ t.selector = { s.selector with sync := some .found })
  ∧ (∀ (slots : Slots) (s : State), s.running → s.canMake .status = true → s.station = .seeking →
      s.slotClean slots →
      ((∃ a : Addr, showsCluster (slots.get a)) →
        ∃ t, exec (.statusPoint slots) s = .next t
          ∧ t.controller = { s.controller with formation := 0 }
          ∧ t.selector = { s.selector with sync := some .joinReq }
          ∧ t.zones = s.zones ∧ t.roster = s.roster ∧ t.events = s.events)
      ∧ ((∀ a : Addr, ¬ showsCluster (slots.get a)) →
          ∃ t, exec (.statusPoint slots) s = .next t
            ∧ t.controller = { s.controller with formation := min (s.controller.formation + 1) 255 }
            ∧ t.selector =
                { s.selector with
                  sync :=
                    if s.controller.config.formationWait ≤ min (s.controller.formation + 1) 255 then
                      some .found
                    else none }
            ∧ t.zones = s.zones ∧ t.roster = s.roster ∧ t.events = s.events))

/-- EVICTION_CANDIDATE: a SYNCED station with a candidate holds the EVICT duty naming the lowest one, with the
reason its counts give, SILENT first. DIVERGENCE: the second divergent cycle puts a SYNCED station in DOUBT
at the status point, with its replica frozen and its requests ended. At every STATUS_POINT in SYNCED, with n other
MEMBERs showing SYNCED and k of them with another counter: the divergence count stands at n = 0, is 0 at 2k < n and
one more at 1 ≤ n ≤ 2k, the second one leading to DOUBT (R73); at a station that stays SYNCED the EVICT duty
names the lowest candidate, and is none with no candidate (R70).
That the row of a limit is the point that reaches it is the model's choice (assumption 1). -/
def Obligations.SyncedStatusLimits : Prop :=
  (∀ (slots : Slots) (s : State), s.running → s.hasCandidate slots = true →
     ∃ (t : State) (a : Addr) (reason : EvictReason),
       exec (.evictionCandidate slots) s = .next t
       ∧ t.selector = { s.selector with urgent := some (.evict a reason) }
       ∧ s.own ≠ some a ∧ t.roster.role a ≠ .absent ∧ (t.monitor.peers.get a).refused = false
       ∧ (reason = .silent →
           s.controller.config.silenceLimit ≤ (t.monitor.peers.get a).silence)
       ∧ (reason = .mismatch →
           (t.monitor.peers.get a).silence < s.controller.config.silenceLimit
           ∧ 2 ≤ (t.monitor.peers.get a).mismatch)
       ∧ (∀ b, b < a → t.candidate b = none)
       ∧ t.station = .synced ∧ t.zones = s.zones ∧ t.roster = s.roster ∧ t.events = s.events)
  ∧ (∀ (slots : Slots) (s : State), s.running → s.diverges slots = true → s.station = .synced →
       ∃ t, exec (.divergence slots) s = .next t
         ∧ t.station = .doubt ∧ t.zones = s.zones ∧ t.roster = s.roster
         ∧ t.sendQueue = SendQueue.cleared ∧ t.monitor.divergence = 0
         ∧ t.events =
             (s.abandonRecords.foldl EventQueue.place s.events).place
               (.state .synced .doubt .divergence s.heldZones))
  ∧ (∀ (slots : Slots) (s : State), s.running → s.canMake .status = true → s.station = .synced →
       s.slotClean slots → s.monitor.divergence < 2 →
       ∃ t, exec (.statusPoint slots) s = .next t
         ∧ ((s.syncedPeers slots).length = 0 →
             t.station = .synced ∧ t.monitor.divergence = s.monitor.divergence)
         ∧ (2 * (s.differingPeers slots).length < (s.syncedPeers slots).length →
             t.station = .synced ∧ t.monitor.divergence = 0)
         ∧ (1 ≤ (s.syncedPeers slots).length →
             (s.syncedPeers slots).length ≤ 2 * (s.differingPeers slots).length →
             (s.monitor.divergence = 0 → t.station = .synced ∧ t.monitor.divergence = 1)
             ∧ (s.monitor.divergence = 1 → t.station = .doubt ∧ t.monitor.divergence = 0))
         ∧ (t.station = .synced →
             ((∀ a reason, ¬ t.isCandidate a reason) →
               t.selector = { s.selector with urgent := none })
             ∧ (∀ a reason, t.isCandidate a reason → (∀ b, b < a → ∀ r, ¬ t.isCandidate b r) →
                 t.selector = { s.selector with urgent := some (.evict a reason) })
             ∧ t.controller = s.controller ∧ t.events = s.events)
         ∧ t.zones = s.zones ∧ t.roster = s.roster)

/-! ## The selection point and the claim segment -/

/-- SELECTION_POINT: a station that chooses puts its message in flight, formed from its roster and queue as
they stand; one that does not leaves everything but the duties of the point as it was. In LEAVING and DOUBT the
message is its LEAVE; in SEEKING its seeking duty, FOUND or JOIN_REQ, with its hold-off run out; in SYNCED the
EVICT duty, then the eligible URGENT entry, then as donor the block of the progress, formed from the roster or
the zone entry as it stands (R77, R78), then the oldest entry when it is NORMAL. -/
def Obligations.SelectionPointOffers : Prop :=
  ∀ s : State, s.running → s.canMake .selection = true →
    ∃ t, exec .selectionPoint s = .next t
      ∧ t.zones = s.zones ∧ t.roster = s.roster ∧ t.controller = s.controller
      ∧ t.events = s.events ∧ t.monitor = s.monitor ∧ t.verdict = s.verdict
      ∧ t.line.counters = s.line.counters ∧ t.selector.served = s.selector.served
      ∧ t.sendQueue.entries.map SendEntry.tag = s.sendQueue.entries.map SendEntry.tag
      ∧ (s.station.chooses = false → t.selector = s.selector ∧ t.sendQueue = s.sendQueue)
      ∧ (∀ own, s.own = some own → s.station = .leaving →
          t.selector.inFlight = some
            { source := .urgent (.leave .voluntary), kind := .leave, cls := .urgent
              message := formMessage .leave own (s.roster.counter.extractLsb' 0 8) [1]
              claim := .contending, mismatchFrom := none }
          ∧ t.line.claimActive = true)
      ∧ (∀ own, s.own = some own → s.station = .doubt →
          t.selector.inFlight = some
            { source := .urgent (.leave .doubt), kind := .leave, cls := .urgent
              message := formMessage .leave own (s.roster.counter.extractLsb' 0 8) [2]
              claim := .contending, mismatchFrom := none }
          ∧ t.line.claimActive = true)
      ∧ (∀ own, s.own = some own → s.station = .seeking → s.selector.urgent = none →
          s.selector.seekHold = 0 →
          (s.selector.sync = some .found →
            t.selector.inFlight = some
              { source := .sync .found, kind := .found, cls := .sync
                message := formMessage .found own (s.roster.counter.extractLsb' 0 8) []
                claim := .contending, mismatchFrom := none }
            ∧ t.line.claimActive = true)
          ∧ (s.selector.sync = some .joinReq →
              t.selector.inFlight = some
                { source := .sync .joinReq, kind := .joinReq, cls := .sync
                  message := formMessage .joinReq own (s.roster.counter.extractLsb' 0 8) []
                  claim := .contending, mismatchFrom := none }
              ∧ t.line.claimActive = true))
      ∧ (∀ own target reason, s.own = some own → s.station = .synced →
          s.selector.urgent = some (.evict target reason) →
          t.selector.inFlight = some
            { source := .urgent (.evict target reason), kind := .evict, cls := .urgent
              message := formMessage .evict own (s.roster.counter.extractLsb' 0 8)
                [natByte target.val, match reason with | .silent => 1 | .mismatch => 2]
              claim := .contending, mismatchFrom := none }
          ∧ t.line.claimActive = true)
      ∧ (∀ own e, s.own = some own → s.station = .synced → s.selector.urgent = none →
          eligibleEntry [] s.sendQueue.entries = some e →
          s.sendQueue.find e.tag = some e →
          t.selector.inFlight = some
            { source := .entry e.tag, kind := e.request.kind, cls := e.request.kind.cls
              message := formMessage e.request.kind own (s.roster.counter.extractLsb' 0 8)
                e.request.payload
              claim := .contending, mismatchFrom := none }
          ∧ t.sendQueue.find e.tag = some { e with state := .inFlight })
      ∧ (∀ own j p content, s.own = some own → s.station = .synced → s.selector.urgent = none →
          eligibleEntry [] s.sendQueue.entries = none → s.roster.donor = some own →
          s.roster.joiner = some j → s.roster.progress = some p → s.selector.snapHold = 0 →
          (p = 0 → content = rosterBlock s.roster) →
          (∀ z : ZoneId, p = z.val + 1 → content = zoneBlock (s.zones.get z)) → p ≤ 64 →
          t.selector.sync = some (.snap p)
          ∧ t.snapshot.sending = some { index := p, content := content }
          ∧ t.selector.inFlight = some
              { source := .sync (.snap p), kind := .snap, cls := .sync
                message := formMessage .snap own (s.roster.counter.extractLsb' 0 8)
                  (natByte p :: content)
                claim := .contending, mismatchFrom := none }
          ∧ t.line.claimActive = true)
      ∧ (∀ own e rest, s.own = some own → s.station = .synced → s.selector.urgent = none →
          eligibleEntry [] s.sendQueue.entries = none →
          (s.roster.donor ≠ some own ∨ s.roster.joiner = none ∨ s.selector.snapHold ≠ 0) →
          s.selector.served = false → s.sendQueue.entries = e :: rest →
          e.request.cls = .normal →
          t.selector.inFlight = some
            { source := .entry e.tag, kind := e.request.kind, cls := .normal
              message := formMessage e.request.kind own (s.roster.counter.extractLsb' 0 8)
                e.request.payload
              claim := .contending, mismatchFrom := none }
          ∧ t.sendQueue.find e.tag = some { e with state := .inFlight }
          ∧ t.line.claimActive = true)
      ∧ (s.station = .synced → s.selector.urgent = none →
          eligibleEntry [] s.sendQueue.entries = none →
          (s.own ≠ s.roster.donor ∨ s.roster.joiner = none ∨ s.selector.snapHold ≠ 0) →
          (s.selector.served = true ∨ s.sendQueue.entries = []) →
          t.selector.inFlight = s.selector.inFlight ∧ t.sendQueue = s.sendQueue
          ∧ t.line.claimActive = s.line.claimActive)

/-- The choice of R118 in its order: URGENT duty, URGENT entry, SYNC duty with its hold-off run out, the oldest
entry when it is NORMAL and the served flag is clear, and otherwise nothing; entries in SYNCED only, and nothing
in OFFLINE, STANDBY, JOINING and FAULTED. The URGENT entry is the oldest one before which no older entry names
its zone (R119). -/
def Obligations.ChoiceFollowsOrder : Prop :=
  (∀ s : State, s.station = .synced →
    (∀ d, s.selector.urgent = some d → s.choice = some (.urgent d))
    ∧ (∀ e, s.selector.urgent = none → eligibleEntry [] s.sendQueue.entries = some e →
        s.choice = some (.entry e.tag))
    ∧ (∀ d, s.selector.urgent = none → eligibleEntry [] s.sendQueue.entries = none →
        s.selector.snapHold = 0 → s.selector.sync = some d → s.choice = some (.sync d))
    ∧ (∀ e rest, s.selector.urgent = none → eligibleEntry [] s.sendQueue.entries = none →
        (s.selector.sync = none ∨ s.selector.snapHold ≠ 0) → s.selector.served = false →
        s.sendQueue.entries = e :: rest → e.request.cls = .normal →
        s.choice = some (.entry e.tag))
    ∧ (s.selector.urgent = none → eligibleEntry [] s.sendQueue.entries = none →
        (s.selector.sync = none ∨ s.selector.snapHold ≠ 0) →
        (s.selector.served = true ∨ ∀ e ∈ s.sendQueue.entries.head?, e.request.cls ≠ .normal) →
        s.choice = none))
  ∧ (∀ (es : List SendEntry) (e : SendEntry), eligibleEntry [] es = some e →
      ∃ older younger, es = older ++ e :: younger ∧ eligibleAfter older e
        ∧ ∀ before x after, older = before ++ x :: after → ¬ eligibleAfter before x)
  ∧ (∀ es : List SendEntry, eligibleEntry [] es = none →
      ∀ older x younger, es = older ++ x :: younger → ¬ eligibleAfter older x)
  ∧ (∀ s : State, s.station = .seeking ∨ s.station = .leaving ∨ s.station = .doubt →
      (∀ d, s.selector.urgent = some d → s.choice = some (.urgent d))
      ∧ (s.selector.urgent = none → s.selector.sync = none → s.choice = none))
  ∧ (∀ s : State, s.station = .seeking → s.selector.urgent = none →
      (∀ d, s.selector.sync = some d → s.selector.seekHold = 0 → s.choice = some (.sync d))
      ∧ (s.selector.seekHold ≠ 0 → s.choice = none))
  ∧ (∀ s : State,
      s.station = .offline ∨ s.station = .standby ∨ s.station = .joining ∨ s.station = .faulted →
      s.choice = none)

/-- ARBITRATION_LOSS and CLAIM_READBACK_FAULT: the message leaves this cycle, its source stands with no
attempt counted, and the loss or the fault is counted once in its own counter. A duty stands in every state, the LEAVE
of a LEAVING or DOUBT station too. In LEAVING an entry whose claim is lost, or faults, ends at that bit with outcome
WITHDRAWN. -/
def Obligations.ClaimLossAndFault : Prop :=
  (∀ (bit : Fin 7) (s : State) (m : InFlight) (own : Addr), s.running →
     s.contending = some m → s.own = some own →
     (s.station = .leaving → ∀ tag, m.source ≠ .entry tag) →
     (claimBitAt m.cls own bit = some true →
       ∃ t, exec (.arbitrationLoss bit) s = .next t
         ∧ t.selector = { s.selector with inFlight := none }
         ∧ t.line.counters =
             { s.line.counters with
               arbitrationLosses := min (s.line.counters.arbitrationLosses + 1) 65535 }
         ∧ ((∀ tag, m.source ≠ .entry tag) → t.sendQueue = s.sendQueue)
         ∧ (∀ tag e, m.source = .entry tag → s.sendQueue.find tag = some e →
             t.sendQueue.find tag = some { e with state := .waiting })
         ∧ t.zones = s.zones ∧ t.roster = s.roster ∧ t.controller = s.controller
         ∧ t.events = s.events ∧ t.verdict = s.verdict ∧ t.monitor = s.monitor)
     ∧ (claimBitAt m.cls own bit = some false →
         ∃ t, exec (.claimReadbackFault bit) s = .next t
           ∧ t.selector = { s.selector with inFlight := none }
           ∧ t.line.counters =
               { s.line.counters with
                 readbackMismatches := min (s.line.counters.readbackMismatches + 1) 65535 }
           ∧ t.line.runCount = s.line.runCount
           ∧ ((∀ tag, m.source ≠ .entry tag) → t.sendQueue = s.sendQueue)
           ∧ (∀ tag e, m.source = .entry tag → s.sendQueue.find tag = some e →
               t.sendQueue.find tag = some { e with state := .waiting })
           ∧ t.zones = s.zones ∧ t.roster = s.roster ∧ t.controller = s.controller
           ∧ t.events = s.events ∧ t.verdict = s.verdict ∧ t.monitor = s.monitor))
  ∧ (∀ (bit : Fin 7) (s : State) (m : InFlight) (own : Addr) (tag : Byte) (e : SendEntry), s.running →
       s.contending = some m → s.own = some own → s.station = .leaving → m.source = .entry tag →
       s.sendQueue.find tag = some e →
       (claimBitAt m.cls own bit = some true →
         ∃ t, exec (.arbitrationLoss bit) s = .next t
           ∧ t.sendQueue =
               { s.sendQueue with
                 entries := s.sendQueue.entries.filter (fun x => x.tag != tag) }
           ∧ t.events = s.events.place e.withdrawn
           ∧ t.selector = { s.selector with inFlight := none }
           ∧ t.line.counters =
               { s.line.counters with
                 arbitrationLosses := min (s.line.counters.arbitrationLosses + 1) 65535 }
           ∧ t.zones = s.zones ∧ t.roster = s.roster ∧ t.controller = s.controller
           ∧ t.verdict = s.verdict ∧ t.monitor = s.monitor)
       ∧ (claimBitAt m.cls own bit = some false →
           ∃ t, exec (.claimReadbackFault bit) s = .next t
             ∧ t.sendQueue =
                 { s.sendQueue with
                   entries := s.sendQueue.entries.filter (fun x => x.tag != tag) }
             ∧ t.events = s.events.place e.withdrawn
             ∧ t.selector = { s.selector with inFlight := none }
             ∧ t.line.counters =
                 { s.line.counters with
                   readbackMismatches := min (s.line.counters.readbackMismatches + 1) 65535 }
             ∧ t.line.runCount = s.line.runCount
             ∧ t.zones = s.zones ∧ t.roster = s.roster ∧ t.controller = s.controller
             ∧ t.verdict = s.verdict ∧ t.monitor = s.monitor))

/-- CLAIM_SEGMENT: the winner's class and address, or the idle segment, held for the cycle; a contender
whose own claim was read has won, and a NORMAL win sets the served flag. -/
def Obligations.ClaimSegmentDecides : Prop :=
  ∀ (read : ClaimRead) (s : State), s.running → s.canMake .claim = true →
    (∀ m own, s.contending = some m → s.own = some own → read.start = .dominant →
      read.cls = m.cls.code → read.addr = own →
      ∃ t, exec (.claimSegment read) s = .next t
        ∧ t.selector =
            { s.selector with
              inFlight := some { m with claim := .won }
              served := s.selector.served || m.cls == .normal }
        ∧ t.verdict = { s.verdict with claim := some (.winner read.cls read.addr) }
        ∧ t.line.claimActive = true ∧ t.zones = s.zones ∧ t.roster = s.roster
        ∧ t.sendQueue = s.sendQueue ∧ t.events = s.events ∧ t.controller = s.controller)
    ∧ (s.contending = none →
        ∃ t, exec (.claimSegment read) s = .next t
          ∧ t.verdict =
              { s.verdict with
                claim := some
                  (if read.start = .dominant then .winner read.cls read.addr else .idle) }
          ∧ t.line.claimActive = (s.line.claimActive || read.start == .dominant)
          ∧ t.selector = s.selector ∧ t.zones = s.zones ∧ t.roster = s.roster
          ∧ t.sendQueue = s.sendQueue ∧ t.events = s.events ∧ t.controller = s.controller)

/-! ## The message segment and owned bits -/

/-- MESSAGE_READBACK_MISMATCH: the readback is mismatched from that bit, counted once, and every later bit
of the segment is sent recessive. -/
def Obligations.MessageMismatchSendsRecessive : Prop :=
  ∀ (bit : Fin 160) (s : State) (m : InFlight), s.running → s.cleanSender = some m →
    s.canMake .message = true →
    ∃ t, exec (.messageReadbackMismatch bit) s = .next t
      ∧ t.selector = { s.selector with inFlight := some { m with mismatchFrom := some bit } }
      ∧ t.line.counters =
          { s.line.counters with
            readbackMismatches := min (s.line.counters.readbackMismatches + 1) 65535 }
      ∧ t.line.runCount = s.line.runCount
      ∧ (∀ i, bit.val ≤ i → ({ m with mismatchFrom := some bit } : InFlight).messageBit i = true)
      ∧ t.zones = s.zones ∧ t.roster = s.roster ∧ t.controller = s.controller
      ∧ t.sendQueue = s.sendQueue ∧ t.events = s.events

/-- MESSAGE_SEGMENT in a cycle with a winner: the receive register and the intact result filled, a message
not intact counted, and the stance of the local state, where it takes one, on the message as read. The intact
test is the five tests of R32. A member, SYNCED or LEAVING with own role MEMBER, objects to an intact message for
the reasons of its kind (R37, R39), gives no stance to one whose basis differs where it is checked (R38) or to a
NOTE it has no room for (R40), and accepts the rest (R36).
A station that came to DOUBT at the status point of the same cycle takes the stance of DOUBT in it, the model's
choice (assumption 33). -/
def Obligations.MessageSegmentTakesStance : Prop :=
  ∀ (bytes : MessageBytes) (s : State) (cls : BitVec 2) (addr : Addr), s.running →
    s.canMake .message = true → s.line.claimActive = true →
    s.verdict.claim = some (.winner cls addr) →
    (∃ t, exec (.messageSegment bytes) s = .next t
      ∧ t.line.receive = some bytes ∧ t.line.intact = some (s.intactTest bytes)
      ∧ t.line.counters.crcErrors =
          (if s.intactTest bytes then s.line.counters.crcErrors
           else min (s.line.counters.crcErrors + 1) 65535)
      ∧ t.verdict.stance =
          (if s.stanceOn bytes (s.intactTest bytes) = .notTaken then s.verdict.stance
           else s.stanceOn bytes (s.intactTest bytes))
      ∧ t.zones = s.zones ∧ t.roster = s.roster ∧ t.controller = s.controller
      ∧ t.sendQueue = s.sendQueue ∧ t.events = s.events)
    ∧ (s.intactTest bytes = true ↔
        crc (bytes.toList.take 18) = word16 (bytes.get 18) (bytes.get 19)
        ∧ ∃ k, kindOf bytes = some k ∧ senderOf bytes = addr ∧ k.cls.code = cls
          ∧ (s.acquiring = true → ∀ index content, bodyOf k (payloadOf bytes) = .snap index content →
              snapContentValid index.toNat content = true))
    ∧ (s.station = .synced ∨ (s.station = .leaving ∧ s.ownRole = .member) →
        ∃ t, exec (.messageSegment bytes) s = .next t
          ∧ (s.intactTest bytes = false → t.verdict.stance = .silent)
          ∧ (∀ k, s.intactTest bytes = true → kindOf bytes = some k →
              (s.objectionReason addr (bodyOf k (payloadOf bytes)) → t.verdict.stance = .object)
              ∧ (¬ s.objectionReason addr (bodyOf k (payloadOf bytes)) →
                  k ≠ .leave → basisOf bytes ≠ s.roster.counter.extractLsb' 0 8 →
                  k ≠ .joinReq → t.verdict.stance = .silent)
              ∧ (¬ s.objectionReason addr (bodyOf k (payloadOf bytes)) →
                  s.noteWithheld (bodyOf k (payloadOf bytes)) → t.verdict.stance = .silent)
              ∧ (¬ s.objectionReason addr (bodyOf k (payloadOf bytes)) →
                  ¬ s.noteWithheld (bodyOf k (payloadOf bytes)) →
                  k = .leave ∨ k = .joinReq ∨ basisOf bytes = s.roster.counter.extractLsb' 0 8 →
                  t.verdict.stance = .accept)))

/-- R41: a station in JOINING, and one in LEAVING whose own role is not MEMBER, accepts every intact message
and takes the stance none on every other. -/
def Obligations.AcquiringStance : Prop :=
  ∀ (bytes : MessageBytes) (s : State) (cls : BitVec 2) (addr : Addr), s.running →
    s.canMake .message = true → s.line.claimActive = true →
    s.verdict.claim = some (.winner cls addr) →
    (s.station = .joining ∨ (s.station = .leaving ∧ s.ownRole ≠ .member)) →
    ∃ t, exec (.messageSegment bytes) s = .next t
      ∧ t.verdict.stance = if s.intactTest bytes then .accept else .silent

/-- R42: a station in DOUBT accepts an intact LEAVE and an intact EVICT, and takes the stance none on every
other message and on every message that is not intact.
That this holds also of a station brought to DOUBT at the status point of the same cycle is the model's choice
(assumption 33). -/
def Obligations.DoubtStance : Prop :=
  ∀ (bytes : MessageBytes) (s : State) (cls : BitVec 2) (addr : Addr), s.running →
    s.canMake .message = true → s.line.claimActive = true →
    s.verdict.claim = some (.winner cls addr) → s.station = .doubt →
    ∃ t, exec (.messageSegment bytes) s = .next t
      ∧ t.verdict.stance =
          if s.intactTest bytes = true
              ∧ (kindOf bytes = some .leave ∨ kindOf bytes = some .evict) then .accept
          else .silent

/-- OWNED_BIT_MISMATCH below the limit adds one to the run count and to its counter; READBACK_FAULT at the
limit takes the station to FAULTED, cleared and driving nothing.
That the row of a limit is the point that reaches it is the model's choice (assumption 1). -/
def Obligations.OwnedBitMismatches : Prop :=
  ∀ (bit : Fin 512) (s : State), s.running → s.ownsBit bit = true →
    s.line.mismatchSeen = false →
    (s.line.runCount < 2 →
      ∃ t, exec (.ownedBitMismatch bit) s = .next t
        ∧ t.line.runCount = s.line.runCount + 1
        ∧ t.line.counters =
            { s.line.counters with
              readbackMismatches := min (s.line.counters.readbackMismatches + 1) 65535 }
        ∧ t.controller = s.controller ∧ t.zones = s.zones ∧ t.roster = s.roster
        ∧ t.sendQueue = s.sendQueue ∧ t.events = s.events ∧ t.selector = s.selector
        ∧ t.verdict = s.verdict ∧ t.monitor = s.monitor)
    ∧ (s.line.runCount = 2 →
        ∃ t, exec (.readbackFault bit) s = .next t
          ∧ t.station = .faulted ∧ t.zones = ZoneTable.cleared ∧ t.roster = Roster.cleared
          ∧ t.monitor = Monitor.cleared ∧ t.snapshot = Snapshot.cleared
          ∧ t.selector = Selector.cleared ∧ t.sendQueue = SendQueue.cleared
          ∧ t.line.runCount = 0
          ∧ t.events =
              (s.abandonRecords.foldl EventQueue.place s.events).place
                (.state s.station .faulted .readbackFault s.heldZones)
          ∧ ∀ b, t.pldDominant b = false)

/-! ## The verdict point and the end of the cycle -/

/-- VERDICT_POINT of a cycle whose claim segment was idle: no decision; the served flag cleared; the
replica, the roster and the local state unchanged. -/
def Obligations.IdleVerdictPoint : Prop :=
  ∀ (a b : VerdictCopy) (s : State), s.running → s.canMake .verdict = true →
    s.verdict.claim = some .idle → s.verdict.stance = .notTaken → s.stallDue = false →
    ∃ t, exec (.verdictPoint a b) s = .next t
      ∧ t.selector.served = false ∧ t.selector.inFlight = none
      ∧ t.zones = s.zones ∧ t.roster = s.roster ∧ t.controller = s.controller
      ∧ t.events = s.events ∧ t.monitor = s.monitor
      ∧ t.line.counters.commitsSeen = s.line.counters.commitsSeen
      ∧ (s.acquiring = true → t.snapshot.stall = s.snapshot.stall + 1)

/-- VERDICT_POINT at a member, SYNCED or LEAVING with own role MEMBER, that decides an intact message committed, other
than a FOUND and than a removal of the station itself: the counter advances, the membership effect and the zone effect
of the message are made on every zone, the commit is counted, and the records of the commit are placed, the GRANT and ZONE records
of each zone in ascending order and the NOTE last. At the sender of a host request the entry leaves the queue, and
its RESULT, with the outcome of the zone or of the NOTE's destination, comes before them; the own waits list takes
the record of a queued CLAIM and loses that of a cancelled or granted zone. At the sender of its own SNAP or EVICT
the duty ends (R79, R130), and everything else is as at a receiver. A FOUND of another station that a SYNCED, LEAVING,
JOINING or DOUBT station decides committed is counted and has no other effect (R49).
A LEAVING member's roster is taken to have its form, which every step keeps (O57).
The statement speaks of every message, so it takes in the model's own readings. Choices are: the outcome of an entry
where the line carried another message of the same address (R132, assumption 35), no effect and no outcome of a CLAIM
of another mode code (assumption 37), and the bytes of a NOTE of a length out of range and NO_DEST for a destination
of 17 or more (assumption 38). Deductions are: no effect of a zone above 63 (assumption 20), and no GRANT without an
own waits record (assumption 26). -/
def Obligations.MemberAppliesCommit : Prop :=
  (∀ (a b : VerdictCopy) (s : State) (k : Kind) (own addr : Addr) (body : Body),
    s.readsCommit a b addr k body → s.appliesAsMember → s.own = some own →
    s.selector.inFlight = none → k ≠ .found →
    (∀ r, body = .leave r → own ≠ addr) → (∀ t r, body = .evict t r → own ≠ t) →
    ∃ t, exec (.verdictPoint a b) s = .next t
      ∧ t.station = s.station
      ∧ t.roster = rosterEffect { s.roster with counter := s.roster.counter + 1 } addr body
      ∧ (∀ z, t.zones.get z = (zoneEffect s.roster addr body z (s.zones.get z)).entry)
      ∧ t.line.counters.commitsSeen = min (s.line.counters.commitsSeen + 1) 65535
      ∧ t.sendQueue.entries.map SendEntry.tag = s.sendQueue.entries.map SendEntry.tag
      ∧ t.sendQueue.ownWaits = s.waitsLeft own addr body s.sendQueue.ownWaits
      ∧ t.events = (s.commitRecords own addr body).foldl EventQueue.place s.events)
  ∧ (∀ (a b : VerdictCopy) (s : State) (k : Kind) (own : Addr) (body : Body) (m : InFlight)
      (tag : Byte) (e : SendEntry) (z : ZoneId) (o : ZoneOutcome),
      s.readsCommit a b own k body → s.appliesAsMember → s.own = some own →
      s.selector.inFlight = some m → m.claim = .won → m.source = .entry tag →
      s.sendQueue.find tag = some e → body.zone? = some z →
      zoneOutcome (s.zones.get z) own body = some o →
      ∃ t, exec (.verdictPoint a b) s = .next t
        ∧ t.station = s.station ∧ t.sendQueue.find tag = none
        ∧ t.roster = { s.roster with counter := s.roster.counter + 1 }
        ∧ t.zones.get z = (zoneEffect s.roster own body z (s.zones.get z)).entry
        ∧ t.events =
            (s.commitRecords own own body).foldl EventQueue.place
              (s.events.place
                (e.result o.outcome o.position o.set (some (s.roster.counter + 1))))
        ∧ (∀ y mode w d, e.request = .claim y mode w d → w ≠ 0 → o.outcome = .queued →
            ({ zone := y, tag := tag, mode := mode } : OwnWait) ∈ t.sendQueue.ownWaits
            ∨ mem (zoneEffect s.roster own body y (s.zones.get y)).granted own = true)
        ∧ (∀ y, e.request = .cancel y → o.outcome = .cancelled →
            ∀ w ∈ t.sendQueue.ownWaits, w.zone ≠ y))
  ∧ (∀ (a b : VerdictCopy) (s : State) (own : Addr) (destination length : Byte) (data : List Byte)
      (m : InFlight) (tag : Byte) (e : SendEntry),
      s.readsCommit a b own .note (.note destination length data) → s.appliesAsMember →
      s.own = some own → s.selector.inFlight = some m → m.claim = .won → m.source = .entry tag →
      s.sendQueue.find tag = some e →
      ∃ t, exec (.verdictPoint a b) s = .next t
        ∧ t.station = s.station ∧ t.sendQueue.find tag = none ∧ t.zones = s.zones
        ∧ t.roster = { s.roster with counter := s.roster.counter + 1 }
        ∧ t.events =
            (noteRecordOf own own (.note destination length data)).foldl EventQueue.place
              (s.events.place
                (e.result
                  (if destination = 16 ∨
                      (∃ x : Addr, destination.toNat = x.val ∧ s.roster.role x = .member) then
                    .delivered else .noDest)
                  none none (some (s.roster.counter + 1)))))
  ∧ (∀ (a b : VerdictCopy) (s : State) (k : Kind) (own : Addr) (body : Body) (m : InFlight),
      s.readsCommit a b own k body → s.appliesAsMember → s.own = some own →
      s.selector.inFlight = some m → m.claim = .won →
      (k = .snap ∧ ∃ index content, m.source = .sync (.snap index)
          ∧ body = .snap (natByte index) content)
        ∨ (k = .evict ∧ ∃ target reason, m.source = .urgent (.evict target reason) ∧ target ≠ own
            ∧ body = .evict target (natByte reason.code)) →
      ∃ t, exec (.verdictPoint a b) s = .next t
        ∧ t.station = s.station
        ∧ t.selector =
            { s.selector with
              urgent := if k = .evict then none else s.selector.urgent
              sync := if k = .snap then none else s.selector.sync
              snapHold :=
                if s.station = .synced then s.selector.snapHold - 1 else s.selector.snapHold
              inFlight := none }
        ∧ t.roster = rosterEffect { s.roster with counter := s.roster.counter + 1 } own body
        ∧ (∀ z, t.zones.get z = (zoneEffect s.roster own body z (s.zones.get z)).entry)
        ∧ t.line.counters.commitsSeen = min (s.line.counters.commitsSeen + 1) 65535
        ∧ t.sendQueue.entries.map SendEntry.tag = s.sendQueue.entries.map SendEntry.tag
        ∧ t.sendQueue.ownWaits = s.waitsLeft own own body s.sendQueue.ownWaits
        ∧ t.events = (s.commitRecords own own body).foldl EventQueue.place s.events)
  ∧ (∀ (a b : VerdictCopy) (s : State) (addr : Addr), s.readsCommit a b addr .found .found →
      s.station = .synced ∨ s.station = .leaving ∨ s.station = .joining ∨ s.station = .doubt →
      s.stallDue = false →
      ∃ t, exec (.verdictPoint a b) s = .next t
        ∧ t.controller = s.controller ∧ t.roster = s.roster ∧ t.zones = s.zones
        ∧ t.monitor = s.monitor ∧ t.events = s.events
        ∧ t.sendQueue.entries.map SendEntry.tag = s.sendQueue.entries.map SendEntry.tag
        ∧ t.sendQueue.ownWaits = s.sendQueue.ownWaits
        ∧ t.snapshot.loaded = s.snapshot.loaded
        ∧ t.snapshot.stall =
            (if s.acquiring = true then s.snapshot.stall + 1 else s.snapshot.stall)
        ∧ t.line.counters.commitsSeen = min (s.line.counters.commitsSeen + 1) 65535)

/-- The station's own duties at the VERDICT_POINT of their attempt. Its own FOUND, won and read clean with no
cluster slot seen and no other acceptance or objection read: committed, and the station is SYNCED as the only
MEMBER of a cleared replica. Its own JOIN_REQ committed against the slot-derived set: JOINING with no roster
(R105). Its own LEAVE committed or objected, in LEAVING (R108) and in DOUBT (R114): STANDBY with reason LEFT and the
replica cleared. An EVICT naming the station committed, in SYNCED and in DOUBT: STANDBY with reason EVICTED, the
entries withdrawn, the EVICT's reason kept as the last eviction reason (R111). With the rejoin flag on, each of these
departures goes on into SEEKING with reason REJOIN (R110). An objected FOUND or JOIN_REQ holds its duty off, an
objected SNAP is held off (R129) and none is held while the hold-off runs (R77, Table 6-2), and an objected EVICT is
dropped with the target marked refused (R130).
Two things are the model's choice (assumption 30): that the admission cycle leaves the stall count 0, and that the
objected SNAP duty is none from the verdict point on. A third is that a JOIN_REQ of its address on the line admits the
station also where it had sent a FOUND (R132, assumption 39). -/
def Obligations.OwnDutiesDecided : Prop :=
  (∀ (a b : VerdictCopy) (s : State) (m : InFlight) (own : Addr) (cls : BitVec 2) (addr : Addr),
    s.running → s.canMake .verdict = true → s.station = .seeking → s.own = some own →
    s.verdict.stance = .notTaken → s.verdict.claim = some (.winner cls addr) →
    s.cleanSender = some m → s.cycleMessage.kind = some .found →
    s.cycleMessage.body = some .found → s.monitor.slotDerived = 0 →
    a.object = 0 → b.object = 0 →
    ∃ t, exec (.verdictPoint a b) s = .next t
      ∧ t.station = .synced ∧ t.ownRole = .member ∧ t.roster.counter = 1
      ∧ (∀ x, x ≠ own → t.roster.role x = .absent)
      ∧ t.zones = ZoneTable.cleared ∧ t.sendQueue = SendQueue.cleared
      ∧ t.snapshot = Snapshot.cleared ∧ t.selector.inFlight = none ∧ t.selector.sync = none
      ∧ t.controller.formation = 0 ∧ t.monitor.divergence = 0
      ∧ t.events = s.events.place (.state .seeking .synced .formed 0))
  ∧ (∀ (a b : VerdictCopy) (s : State) (m : InFlight) (own : Addr),
      s.readsCommit a b own .joinReq .joinReq → s.station = .seeking → s.own = some own →
      s.verdict.stance = .notTaken → s.selector.inFlight = some m → m.claim = .won →
      ∃ t, exec (.verdictPoint a b) s = .next t
        ∧ t.station = .joining ∧ t.snapshot = Snapshot.cleared ∧ t.selector.sync = none
        ∧ t.selector.inFlight = none ∧ t.controller.formation = 0
        ∧ t.roster = s.roster ∧ t.zones = s.zones
        ∧ t.events = s.events.place (.state .seeking .joining .admitted s.heldZones))
  ∧ (∀ (a b : VerdictCopy) (s : State) (m : InFlight) (own : Addr) (reason : LeaveReason)
      (code : Byte), s.station = .leaving ∨ s.station = .doubt → s.own = some own →
      s.selector.inFlight = some m → m.claim = .won → m.source = .urgent (.leave reason) →
      (s.readsCommit a b own .leave (.leave code)
        ∨ (s.running ∧ s.canMake .verdict = true ∧ s.survives a b = true
          ∧ s.verdict.claim = some (.winner 0 own) ∧ s.commits a = false ∧ s.commits b = false
          ∧ a.object ||| b.object ≠ 0)) →
      ∃ t, exec (.verdictPoint a b) s = .next t
        ∧ t.station = (if s.controller.config.rejoin then .seeking else .standby)
        ∧ t.zones = ZoneTable.cleared ∧ t.roster = Roster.cleared
        ∧ t.sendQueue = SendQueue.cleared ∧ t.snapshot = Snapshot.cleared
        ∧ t.selector = Selector.cleared ∧ t.policy = s.policy
        ∧ t.events =
            s.departureEvents (s.sendQueue.entries.map SendEntry.withdrawn) .left)
  ∧ (∀ (a b : VerdictCopy) (s : State) (own addr : Addr) (reason : EvictReason),
      s.readsCommit a b addr .evict (.evict own (natByte reason.code)) →
      s.station = .synced ∨ s.station = .doubt → s.own = some own →
      ∃ t, exec (.verdictPoint a b) s = .next t
        ∧ t.controller =
            { s.controller with
              station := if s.controller.config.rejoin then .seeking else .standby
              formation := 0, lastEviction := some reason }
        ∧ t.zones = ZoneTable.cleared ∧ t.roster = Roster.cleared
        ∧ t.sendQueue = SendQueue.cleared ∧ t.selector = Selector.cleared
        ∧ t.events =
            s.departureEvents (s.sendQueue.entries.map SendEntry.withdrawn) .evicted)
  ∧ (∀ (a b : VerdictCopy) (s : State) (m : InFlight) (cls : BitVec 2) (addr : Addr), s.running →
      s.canMake .verdict = true → s.survives a b = true →
      s.verdict.claim = some (.winner cls addr) → s.selector.inFlight = some m → m.claim = .won →
      s.commits a = false → s.commits b = false → a.object ||| b.object ≠ 0 →
      (s.station = .seeking → m.source = .sync .found ∨ m.source = .sync .joinReq →
        ∃ t, exec (.verdictPoint a b) s = .next t
          ∧ t.selector = { s.selector with seekHold := 8, inFlight := none }
          ∧ t.controller = s.controller ∧ t.zones = s.zones ∧ t.roster = s.roster
          ∧ t.events = s.events)
      ∧ (∀ index, s.station = .synced → m.source = .sync (.snap index) →
          ∃ t, exec (.verdictPoint a b) s = .next t
            ∧ t.selector = { s.selector with snapHold := 8, sync := none, inFlight := none }
            ∧ t.controller = s.controller ∧ t.zones = s.zones ∧ t.roster = s.roster
            ∧ t.events = s.events)
      ∧ (∀ target reason, s.station = .synced → m.source = .urgent (.evict target reason) →
          ∃ t, exec (.verdictPoint a b) s = .next t
            ∧ t.selector =
                { s.selector with
                  urgent := none, snapHold := s.selector.snapHold - 1, inFlight := none }
            ∧ (t.monitor.peers.get target).refused = true
            ∧ (∀ x, x ≠ target → t.monitor.peers.get x = s.monitor.peers.get x)
            ∧ t.controller = s.controller ∧ t.zones = s.zones ∧ t.roster = s.roster
            ∧ t.events = s.events))

/-- VERDICT_POINT of a committed SNAP at a JOINING station. With no roster, the roster block that names it JOINING
or QUEUED is loaded whole and its own commit applied, the zones unchanged (R83, R84), and any other block changes
nothing. As the joiner of the transfer, the next block is loaded: its zone takes the entry it carries, the
loaded-block count and the progress advance, and the counter advances once (R85); the last one makes the station
MEMBER and SYNCED (R88); a repeat of the block loaded last is loaded without a further advance (R89); any other
index is a gap that leads to DOUBT with nothing applied (R90). Each committed SNAP sets the stall count to 0, the gap
too (R91).
VERDICT_POINT of any other commit at an acquiring station, JOINING or LEAVING, its own removal and a FOUND apart: with a
roster the counter advances, the membership effect is made, and the zone effect on the loaded zones alone, with no
record (R86); the commit that takes the last MEMBER dissolves the roster, and the station leaves the cluster (R64); with
no roster nothing is applied. The stall count is one more (R91).
The own waits list of such a station is taken to be empty, as R76 and R86 leave it: line requests are taken in SYNCED
only. -/
def Obligations.JoinerFollowsTransfer : Prop :=
  (∀ (s : State) (sender own : Addr) (z : ZoneId) (content : List Byte),
    s.station = .joining → s.own = some own → s.roster.joiner = some own →
    s.roster.role own = .joining → s.snapshot.loaded = z.val + 1 →
    s.roster.progress = some (z.val + 1) → z.val < 63 → zoneBlockValid content = true →
    (s.joinerSnap sender (z.val + 1) content).zones.get z = blockEntry content
    ∧ (∀ y, y ≠ z → (s.joinerSnap sender (z.val + 1) content).zones.get y = s.zones.get y)
    ∧ (s.joinerSnap sender (z.val + 1) content).snapshot.loaded = z.val + 2
    ∧ (s.joinerSnap sender (z.val + 1) content).roster =
        { s.roster with progress := some (z.val + 2), counter := s.roster.counter + 1 }
    ∧ (s.joinerSnap sender (z.val + 1) content).station = .joining
    ∧ (s.joinerSnap sender (z.val + 1) content).events = s.events)
  ∧ (∀ (a b : VerdictCopy) (s : State) (own addr : Addr) (index : Byte) (content : List Byte),
      s.readsCommit a b addr .snap (.snap index content) → s.station = .joining →
      s.own = some own → s.selector.inFlight = none →
      (s.snapshot.loaded = 0 → index = 0 →
        (blockRole content own = .joining ∨ blockRole content own = .queued) →
        rosterBlockValid content = true →
        ∃ t, exec (.verdictPoint a b) s = .next t
          ∧ t.station = .joining ∧ t.zones = s.zones ∧ t.events = s.events
          ∧ t.roster =
              { blockRoster content with
                progress := some 1, counter := (blockRoster content).counter + 1 }
          ∧ t.snapshot.loaded = 1 ∧ t.snapshot.stall = 0)
      ∧ (s.snapshot.loaded = 0 →
          index ≠ 0 ∨ blockRole content own = .absent ∨ blockRole content own = .member →
          ∃ t, exec (.verdictPoint a b) s = .next t
            ∧ t.station = .joining ∧ t.zones = s.zones ∧ t.roster = s.roster
            ∧ t.events = s.events ∧ t.snapshot.loaded = 0 ∧ t.snapshot.stall = 0)
      ∧ (∀ z : ZoneId, s.roster.joiner = some own → index.toNat = z.val + 1 →
          s.snapshot.loaded = z.val + 1 → s.roster.progress = some (z.val + 1) → z.val < 63 →
          zoneBlockValid content = true →
          ∃ t, exec (.verdictPoint a b) s = .next t
            ∧ t.station = .joining ∧ t.events = s.events
            ∧ t.zones.get z = blockEntry content
            ∧ (∀ y, y ≠ z → t.zones.get y = s.zones.get y)
            ∧ t.roster =
                { s.roster with progress := some (z.val + 2), counter := s.roster.counter + 1 }
            ∧ t.snapshot.loaded = z.val + 2 ∧ t.snapshot.stall = 0)
      ∧ (s.roster.joiner = some own → index = 64 → s.snapshot.loaded = 64 →
          s.roster.progress = some 64 → s.roster.joinQueue = [] → zoneBlockValid content = true →
          ∃ t, exec (.verdictPoint a b) s = .next t
            ∧ t.station = .synced ∧ t.ownRole = .member ∧ t.roster.progress = none
            ∧ t.roster.counter = s.roster.counter + 1
            ∧ t.zones.get 63 = blockEntry content
            ∧ (∀ y, y ≠ 63 → t.zones.get y = s.zones.get y)
            ∧ t.snapshot = Snapshot.cleared ∧ t.sendQueue = SendQueue.cleared
            ∧ t.events = s.events.place (.state .joining .synced .synchronised t.heldZones))
      ∧ (s.roster.role own = .joining → index = 0 → s.snapshot.loaded = 1 →
          rosterBlockValid content = true →
          ∃ t, exec (.verdictPoint a b) s = .next t
            ∧ t.station = .joining ∧ t.zones = s.zones ∧ t.events = s.events
            ∧ t.roster =
                { blockRoster content with
                  progress := some 1, counter := (blockRoster content).counter + 1 }
            ∧ t.snapshot.loaded = 1)
      ∧ (∀ z : ZoneId, s.roster.role own = .joining → index.toNat = z.val + 1 →
          s.snapshot.loaded = z.val + 2 → zoneBlockValid content = true →
          ∃ t, exec (.verdictPoint a b) s = .next t
            ∧ t.station = .joining ∧ t.roster = s.roster ∧ t.events = s.events
            ∧ t.zones.get z = blockEntry content
            ∧ (∀ y, y ≠ z → t.zones.get y = s.zones.get y)
            ∧ t.snapshot.loaded = s.snapshot.loaded)
      ∧ (s.roster.role own = .joining → 1 ≤ s.snapshot.loaded → s.snapshot.loaded ≤ 64 →
          index.toNat ≠ s.snapshot.loaded → index.toNat + 1 ≠ s.snapshot.loaded →
          ∃ t, exec (.verdictPoint a b) s = .next t
            ∧ t.station = .doubt ∧ t.zones = s.zones ∧ t.roster = s.roster
            ∧ t.snapshot.loaded = s.snapshot.loaded ∧ t.snapshot.stall = 0
            ∧ t.events =
                (s.abandonRecords.foldl EventQueue.place s.events).place
                  (.state .joining .doubt .snapshotGap s.heldZones)))
  ∧ (∀ (a b : VerdictCopy) (s : State) (own addr : Addr) (k : Kind) (body : Body) (after : Roster),
      s.readsCommit a b addr k body → s.acquiring = true → s.own = some own →
      s.selector.inFlight = none → s.sendQueue.ownWaits = [] → s.stallDue = false →
      k ≠ .found → k ≠ .snap → (∀ r, body = .leave r → own ≠ addr) →
      (∀ x r, body = .evict x r → own ≠ x) →
      after = rosterEffect { s.roster with counter := s.roster.counter + 1 } addr body →
      (s.snapshot.loaded = 0 →
        ∃ t, exec (.verdictPoint a b) s = .next t
          ∧ t.controller = s.controller ∧ t.roster = s.roster ∧ t.zones = s.zones
          ∧ t.events = s.events ∧ t.snapshot.loaded = 0
          ∧ t.snapshot.stall = s.snapshot.stall + 1)
      ∧ (1 ≤ s.snapshot.loaded → (∃ x, after.role x = .member) →
          ∃ t, exec (.verdictPoint a b) s = .next t
            ∧ t.controller = s.controller ∧ t.roster = after
            ∧ (∀ z, z.val + 2 ≤ s.snapshot.loaded →
                t.zones.get z = (zoneEffect s.roster addr body z (s.zones.get z)).entry)
            ∧ (∀ z, s.snapshot.loaded < z.val + 2 → t.zones.get z = s.zones.get z)
            ∧ t.events = s.events ∧ t.snapshot.loaded = s.snapshot.loaded
            ∧ t.snapshot.stall = s.snapshot.stall + 1
            ∧ t.line.counters.commitsSeen = min (s.line.counters.commitsSeen + 1) 65535)
      ∧ (1 ≤ s.snapshot.loaded → (∃ x, s.roster.role x = .member) →
          (∀ x, after.role x ≠ .member) →
          ∃ t, exec (.verdictPoint a b) s = .next t
            ∧ t.station =
                (if s.station = .joining ∨ s.controller.config.rejoin = true then .seeking
                 else .standby)
            ∧ t.zones = ZoneTable.cleared ∧ t.roster = Roster.cleared
            ∧ t.snapshot = Snapshot.cleared ∧ t.selector = Selector.cleared
            ∧ t.sendQueue = SendQueue.cleared))

/-- The decision from one copy (R46): committed exactly when no address objects and every address of the required set
accepts. The set is given by the kind from the roles of the roster the station holds (R44), by the slots of the cycle,
not empty, where it holds none (R45), and for its own FOUND it is the SEEKING sender, that counts itself as accepting
when its readback was clean and no cluster slot was seen (R43).
VERDICT_POINT at a station that takes no part in the decision: nothing of the cycle has an effect (R46).
VERDICT_POINT whose two copies give different decisions, whichever of them is the committed one: a station in
SYNCED, LEAVING or JOINING enters DOUBT and applies nothing; one in DOUBT lets the cycle pass. VERDICT_POINT of a
cycle decided committed whose message was read not intact: DOUBT with reason DAMAGED_COMMIT, nothing applied, and
the commit counted. The cycle is one more for the stall count of an acquiring station, but for a damaged commit
read as a SNAP, which sets it to 0 (R91).
That a JOIN_REQ needs the base set whole, its sender in it where the roster has it there, is the model's choice
(assumption 31), and so is the doubt before a join stall (assumption 7). Its readings are the base set where no kind
can be read (assumption 9), a roster with a MEMBER in DOUBT (assumption 25), and the own bit of a FOUND sender
(assumption 29). -/
def Obligations.CopiesDisagree : Prop :=
  (∀ (copy : VerdictCopy) (s : State) (sender : Addr) (bytes : MessageBytes),
    s.decidesOn sender bytes →
    (s.decidesByRoster →
      (s.commits copy = true ↔ copy.object = 0 ∧
        ∀ x, s.roster.requires sender (fieldsOf bytes) x → mem copy.accept x = true))
    ∧ (¬ s.decidesByRoster → (s.station = .seeking → kindOf bytes ≠ some .found) →
        (s.commits copy = true ↔ copy.object = 0 ∧ s.monitor.slotDerived ≠ 0 ∧
          ∀ x, mem s.monitor.slotDerived x = true → mem copy.accept x = true))
    ∧ (∀ own, s.own = some own → s.station = .seeking → kindOf bytes = some .found →
        (s.commits copy = true ↔ copy.object = 0 ∧ s.monitor.slotDerived = 0 ∧
          ∃ m, s.selector.inFlight = some m ∧ m.claim = .won ∧ m.mismatchFrom = none)))
  ∧ (∀ (a b : VerdictCopy) (s : State), s.running → s.canMake .verdict = true →
      s.survives a b = true →
      (s.station = .offline ∨ s.station = .standby ∨ s.station = .faulted
        ∨ (s.station = .seeking ∧ ∀ m, s.selector.inFlight = some m → m.claim ≠ .won)) →
      ∃ t, exec (.verdictPoint a b) s = .next t
        ∧ t.controller = s.controller ∧ t.roster = s.roster ∧ t.zones = s.zones
        ∧ t.events = s.events ∧ t.monitor = s.monitor ∧ t.snapshot.stall = s.snapshot.stall
        ∧ t.line.counters.commitsSeen = s.line.counters.commitsSeen)
  ∧ (∀ (a b : VerdictCopy) (s : State) (cls : BitVec 2) (addr : Addr), s.running →
    s.canMake .verdict = true → s.survives a b = true →
    s.verdict.claim = some (.winner cls addr) → s.line.claimActive = true →
    s.copiesDiffer a b →
    (s.canDoubt = true →
      ∃ t, exec (.verdictPoint a b) s = .next t
        ∧ t.station = .doubt ∧ t.zones = s.zones ∧ t.roster = s.roster
        ∧ t.sendQueue = SendQueue.cleared
        ∧ t.line.counters.copyDisagreements =
            min (s.line.counters.copyDisagreements + 1) 65535
        ∧ t.events =
            (s.abandonRecords.foldl EventQueue.place s.events).place
              (.state s.station .doubt .copyDisagree s.heldZones)
        ∧ t.snapshot.loaded = s.snapshot.loaded
        ∧ t.snapshot.stall =
            if s.acquiring = true then min (s.snapshot.stall + 1) 128 else s.snapshot.stall)
    ∧ (s.station = .doubt →
        ∃ t, exec (.verdictPoint a b) s = .next t
          ∧ t.controller = s.controller ∧ t.zones = s.zones ∧ t.roster = s.roster
          ∧ t.events = s.events
          ∧ t.line.counters.copyDisagreements =
              min (s.line.counters.copyDisagreements + 1) 65535))
  ∧ (∀ (a b : VerdictCopy) (s : State) (cls : BitVec 2) (addr : Addr), s.running →
      s.canMake .verdict = true → s.survives a b = true →
      s.verdict.claim = some (.winner cls addr) → s.line.intact = some false →
      s.commits a = true → s.commits b = true → s.canDoubt = true →
      ∃ t, exec (.verdictPoint a b) s = .next t
        ∧ t.station = .doubt ∧ t.zones = s.zones ∧ t.roster = s.roster
        ∧ t.snapshot.loaded = s.snapshot.loaded
        ∧ t.snapshot.stall =
            (if s.acquiring = true then
              if s.cycleMessage.kind = some .snap then 0 else min (s.snapshot.stall + 1) 128
             else s.snapshot.stall)
        ∧ t.line.counters.commitsSeen = min (s.line.counters.commitsSeen + 1) 65535
        ∧ t.events =
            (s.abandonRecords.foldl EventQueue.place s.events).place
              (.state s.station .doubt .damagedCommit s.heldZones))

/-- The sender's view of a host request not committed, in SYNCED: an objection ends it OBJECTED with the
union of the OBJECT maps; a lack of acceptance below the retry limit counts an attempt and keeps it; at the
limit (RETRY_LIMIT_REACHED) it ends FAILED with the addresses of the required set that either copy lacks.
That the row of a limit is the point that reaches it is the model's choice (assumption 1). -/
def Obligations.SenderViewNotCommitted : Prop :=
  (∀ (a b : VerdictCopy) (s : State) (m : InFlight) (tag : Byte) (e : SendEntry) (cls : BitVec 2)
     (addr : Addr),
     s.running → s.canMake .verdict = true → s.station = .synced → s.survives a b = true →
     s.verdict.claim = some (.winner cls addr) → s.selector.inFlight = some m → m.claim = .won →
     m.source = .entry tag → s.sendQueue.find tag = some e →
     s.commits a = false → s.commits b = false →
     (a.object ||| b.object ≠ 0 →
       ∃ t, exec (.verdictPoint a b) s = .next t
         ∧ t.sendQueue.find tag = none
         ∧ t.events =
             s.events.place (e.result .objected none (some (a.object ||| b.object)) none)
         ∧ t.zones = s.zones ∧ t.roster = s.roster ∧ t.station = .synced)
     ∧ (a.object ||| b.object = 0 → e.attempts + 1 < s.controller.config.retryLimit →
         ∃ t, exec (.verdictPoint a b) s = .next t
           ∧ t.sendQueue.find tag =
               some { e with attempts := e.attempts + 1, state := .waiting }
           ∧ t.events = s.events ∧ t.zones = s.zones ∧ t.roster = s.roster
           ∧ t.station = .synced))
  ∧ (∀ (a b : VerdictCopy) (s : State) (m : InFlight) (tag : Byte) (e : SendEntry) (cls : BitVec 2)
       (addr : Addr),
       s.running → s.canMake .verdict = true → s.station = .synced → s.survives a b = true →
       s.verdict.claim = some (.winner cls addr) → s.selector.inFlight = some m → m.claim = .won →
       m.source = .entry tag → s.sendQueue.find tag = some e →
       s.commits a = false → s.commits b = false → a.object = 0 → b.object = 0 →
       s.controller.config.retryLimit ≤ e.attempts + 1 →
       ∃ t, exec (.retryLimitReached a b) s = .next t
         ∧ t.sendQueue.find tag = none
         ∧ t.events =
             s.events.place
               (e.result .failed none
                 (some (without (s.roster.required s.cycleMessage) (a.accept &&& b.accept))) none)
         ∧ t.zones = s.zones ∧ t.roster = s.roster ∧ t.station = .synced)

/-- JOIN_STALL: the 128th end of cycle with no committed SNAP takes a JOINING station to SEEKING and, with the
rejoin flag off, an acquiring LEAVING station to STANDBY, the replica cleared. HOLD_OFF_EXPIRY: the last
cycle of a hold-off brings it to 0, and the duty it held back is offered again.
That the row of a limit is the point that reaches it is the model's choice (assumption 1). -/
def Obligations.CycleEndLimits : Prop :=
  (∀ (a b : VerdictCopy) (s : State), s.running → s.canMake .verdict = true →
     s.verdict.claim = some .idle → s.verdict.stance = .notTaken → s.snapshot.stall = 127 →
     (s.station = .joining →
       ∃ t, exec (.joinStall (.verdict a b)) s = .next t
         ∧ t.station = .seeking ∧ t.zones = ZoneTable.cleared ∧ t.roster = Roster.cleared
         ∧ t.snapshot = Snapshot.cleared ∧ t.controller.formation = 0)
     ∧ (s.station = .leaving → s.ownRole ≠ .member → s.controller.config.rejoin = false →
         ∃ t, exec (.joinStall (.verdict a b)) s = .next t
           ∧ t.station = .standby ∧ t.zones = ZoneTable.cleared ∧ t.roster = Roster.cleared
           ∧ t.snapshot = Snapshot.cleared ∧ t.selector = Selector.cleared))
  ∧ (∀ (a b : VerdictCopy) (s : State), s.running → s.canMake .verdict = true →
       s.verdict.claim = some .idle → s.verdict.stance = .notTaken →
       (s.station = .seeking → s.selector.seekHold = 1 →
         ∃ t, exec (.holdOffExpiry (.verdict a b)) s = .next t
           ∧ t.selector =
               { s.selector with seekHold := 0, served := false, inFlight := none }
           ∧ t.syncOffer = s.selector.sync ∧ t.controller = s.controller)
       ∧ (s.station = .synced → s.selector.snapHold = 1 →
           ∃ t, exec (.holdOffExpiry (.verdict a b)) s = .next t
             ∧ t.selector =
                 { s.selector with snapHold := 0, served := false, inFlight := none }
             ∧ t.controller = s.controller ∧ t.zones = s.zones ∧ t.roster = s.roster))

/-! ## The rules of a zone and of the roster -/

/-- R6: a duration of 1 to 255 ticks stands for 64 cycles a tick, 0 for UNLIMITED; finite values compare as
numbers, and UNLIMITED is larger than every finite value. -/
def Obligations.DurationsAndLarger : Prop :=
  (∀ d : Byte, d ≠ 0 → durationValue d = .cycles (d.toNat * 64))
  ∧ durationValue 0 = .unlimited
  ∧ (∀ m n, larger (.cycles m) (.cycles n) = .cycles (max m n))
  ∧ (∀ r, larger .unlimited r = .unlimited)
  ∧ (∀ r, larger r .unlimited = .unlimited)

/-- The zone rules case by case. CLAIM: the four cases of R7 to R10 in their order, and the outcome of each.
RENEW (R12): a holder's zone takes the larger remaining value. RELEASE (R13): a holder leaves, and a zone left
with none is granted from its queue. CANCEL (R14): the waiter record leaves, and shared admission follows. Shared
admission (R15): the leading SHARED run of a SHARED zone's queue joins the holders, the remaining value becoming
the largest. Removal (R16): the steps of a RELEASE at a holder, those of a CANCEL at a waiter, nothing at any
other station. -/
def Obligations.ZoneRulesByCase : Prop :=
  (∀ (e : ZoneEntry) (s : Addr) (m : LeaseMode) (d : Byte) (w : Bool),
    ((mem e.holders s = true ∨ waits e.queue s = true) →
      (claimZone e s m d w).entry = e ∧ (claimOutcome e s m w).outcome = .already)
    ∧ (mem e.holders s = false → waits e.queue s = false →
        (e.state = .free →
          (claimZone e s m d w).entry =
            { state := stateOfMode m, holders := single s, remaining := some (durationValue d)
              generation := e.generation + 1, queue := e.queue }
          ∧ (claimOutcome e s m w).outcome = .granted)
        ∧ (∀ r, e.state = .shared → m = .shared → e.queue = [] → e.remaining = some r →
            (claimZone e s m d w).entry =
              { e with
                holders := insert e.holders s, remaining := some (larger r (durationValue d)) }
            ∧ (claimOutcome e s m w).outcome = .granted)
        ∧ (e.state ≠ .free → (e.state = .exclusive ∨ m = .exclusive ∨ e.queue ≠ []) →
            (w = true → e.queue.length < 4 →
              (claimZone e s m d w).entry =
                { e with queue := e.queue ++ [{ station := s, mode := m, duration := d }] }
              ∧ claimOutcome e s m w =
                  { outcome := .queued, position := some (e.queue.length + 1), set := none })
            ∧ (w = false ∨ 4 ≤ e.queue.length →
                (claimZone e s m d w).entry = e
                ∧ claimOutcome e s m w =
                    { outcome := .busy, position := none, set := some e.holders }))))
  ∧ (∀ (e : ZoneEntry) (s : Addr) (d : Byte),
      (∀ r, mem e.holders s = true → e.remaining = some r →
        (renewZone e s d).entry = { e with remaining := some (larger r (durationValue d)) }
        ∧ (renewOutcome e s).outcome = .renewed)
      ∧ (mem e.holders s = false →
          (renewZone e s d).entry = e ∧ (renewOutcome e s).outcome = .notHolder))
  ∧ (∀ (e : ZoneEntry) (s : Addr),
      (mem e.holders s = true → (∃ x, x ≠ s ∧ mem e.holders x = true) →
        (releaseZone e s).entry = { e with holders := erase e.holders s }
        ∧ (releaseZone e s).granted = 0 ∧ (releaseOutcome e s).outcome = .released)
      ∧ (mem e.holders s = true → (∀ x, x ≠ s → mem e.holders x = false) →
          releaseZone e s = grantFromQueue e.generation e.queue
          ∧ (releaseOutcome e s).outcome = .released)
      ∧ (mem e.holders s = false →
          (releaseZone e s).entry = e ∧ (releaseOutcome e s).outcome = .notHolder))
  ∧ (∀ (e : ZoneEntry) (s : Addr),
      ((∃ w ∈ e.queue, w.station = s) →
        cancelZone e s =
          sharedAdmission { e with queue := e.queue.filter (fun w => w.station != s) }
        ∧ (cancelOutcome e s).outcome = .cancelled)
      ∧ ((∀ w ∈ e.queue, w.station ≠ s) →
          (cancelZone e s).entry = e ∧ (cancelOutcome e s).outcome = .notQueued))
  ∧ (∀ e : ZoneEntry,
      ((e.state ≠ .shared ∨ ∀ w ∈ e.queue.head?, w.mode = .exclusive) →
        (sharedAdmission e).entry = e ∧ (sharedAdmission e).granted = 0)
      ∧ (∀ (h : Waiter) (rest : List Waiter) (r : Remaining), e.state = .shared →
          e.queue = h :: rest → h.mode = .shared → e.remaining = some r →
          (sharedAdmission e).entry.state = .shared
          ∧ (sharedAdmission e).entry.generation = e.generation
          ∧ (sharedAdmission e).entry.queue = e.queue.dropWhile (fun w => w.mode == .shared)
          ∧ (∀ x, mem (sharedAdmission e).entry.holders x = true ↔
              mem e.holders x = true
              ∨ ∃ w ∈ e.queue.takeWhile (fun w => w.mode == .shared), w.station = x)
          ∧ (∀ x, mem (sharedAdmission e).granted x = true ↔
              ∃ w ∈ e.queue.takeWhile (fun w => w.mode == .shared), w.station = x)
          ∧ ∃ m, (sharedAdmission e).entry.remaining = some m ∧ larger m r = m
            ∧ (∀ w ∈ e.queue.takeWhile (fun w => w.mode == .shared),
                larger m (durationValue w.duration) = m)
            ∧ (m = r ∨ ∃ w ∈ e.queue.takeWhile (fun w => w.mode == .shared),
                m = durationValue w.duration)))
  ∧ (∀ (e : ZoneEntry) (t : Addr),
      (mem e.holders t = true → (∀ w ∈ e.queue, w.station ≠ t) →
        removeFromZone e t = releaseZone e t)
      ∧ (mem e.holders t = false → (∃ w ∈ e.queue, w.station = t) →
          removeFromZone e t = cancelZone e t)
      ∧ (mem e.holders t = false → (∀ w ∈ e.queue, w.station ≠ t) →
          removeFromZone e t = { entry := e, granted := 0, expired := 0 }))

/-- R60, R61, R62, R64: a JOIN_REQ from an ABSENT address makes it JOINING or queues it, and one from any other
address changes nothing; a SNAP at the progress advances it, one at another index changes nothing, and the last
one makes the joiner MEMBER and promotes the head of the queue; a removal takes the role away, of an ABSENT
address changing nothing: a lost joiner's place goes to the head of the queue, a QUEUED address leaves the queue,
whose others keep their order, a MEMBER beside others leaves them as they are, and the last MEMBER dissolves the
roster. -/
def Obligations.RosterEffects : Prop :=
  (∀ (r : Roster) (s : Addr), r.role s = .absent → r.donor ≠ none → r.joiner = none →
    (r.applyJoinReq s).role s = .joining ∧ (r.applyJoinReq s).progress = some 0
    ∧ (r.applyJoinReq s).joinQueue = r.joinQueue)
  ∧ (∀ (r : Roster) (s j : Addr), r.role s = .absent → r.donor ≠ none → r.joiner = some j →
      (r.applyJoinReq s).role s = .queued ∧ (r.applyJoinReq s).progress = r.progress
      ∧ (r.applyJoinReq s).joinQueue = r.joinQueue ++ [s])
  ∧ (∀ (r : Roster) (s : Addr), r.role s ≠ .absent ∨ r.donor = none → r.applyJoinReq s = r)
  ∧ (∀ (r : Roster) (s x : Addr), x ≠ s → (r.applyJoinReq s).role x = r.role x)
  ∧ (∀ (r : Roster) (j : Addr) (p : Nat), r.joiner = some j → r.progress = some p → p < 64 →
      r.applySnap p = { r with progress := some (p + 1) })
  ∧ (∀ (r : Roster) (i : Nat), r.joiner = none ∨ r.progress ≠ some i → r.applySnap i = r)
  ∧ (∀ (r : Roster) (j : Addr), r.joiner = some j → r.progress = some 64 → r.joinQueue = [] →
      (r.applySnap 64).role j = .member ∧ (r.applySnap 64).progress = none)
  ∧ (∀ (r : Roster) (j h : Addr) (rest : List Addr), r.joiner = some j → r.progress = some 64 →
      r.joinQueue = h :: rest → h ≠ j →
      (r.applySnap 64).role j = .member ∧ (r.applySnap 64).role h = .joining
      ∧ (r.applySnap 64).joinQueue = rest ∧ (r.applySnap 64).progress = some 0)
  ∧ (∀ (r : Roster) (t : Addr), r.role t = .absent → r.remove t = r)
  ∧ (∀ (r : Roster) (j : Addr), r.role j = .joining → r.joinQueue = [] →
      (r.remove j).role j = .absent ∧ (r.remove j).progress = none)
  ∧ (∀ (r : Roster) (j h : Addr) (rest : List Addr), r.role j = .joining →
      r.joinQueue = h :: rest → h ≠ j →
      (r.remove j).role j = .absent ∧ (r.remove j).role h = .joining
      ∧ (r.remove j).joinQueue = rest ∧ (r.remove j).progress = some 0
      ∧ ∀ x, x ≠ j → x ≠ h → (r.remove j).role x = r.role x)
  ∧ (∀ (r : Roster) (q : Addr), r.role q = .queued →
      (r.remove q).role q = .absent ∧ (r.remove q).progress = r.progress
      ∧ (r.remove q).joinQueue = r.joinQueue.filter (fun a => a != q)
      ∧ ∀ x, x ≠ q → (r.remove q).role x = r.role x)
  ∧ (∀ (r : Roster) (s x : Addr), r.role s = .member → r.role x = .member → x ≠ s →
      (r.remove s).role s = .absent ∧ (r.remove s).role x = .member
      ∧ (r.remove s).joinQueue = r.joinQueue ∧ (r.remove s).progress = r.progress
      ∧ ∀ y, y ≠ s → (r.remove s).role y = r.role y)
  ∧ (∀ (r : Roster) (s : Addr), r.role s = .member → (∀ x, x ≠ s → r.role x ≠ .member) →
      (∀ x, (r.remove s).role x = .absent) ∧ (r.remove s).joinQueue = []
      ∧ (r.remove s).progress = none)
  ∧ (∀ (r : Roster) (t : Addr), (r.remove t).counter = r.counter)

/-! ## Layouts read back -/

/-- The block a donor forms of a well-formed zone entry is 15 bytes, passes a joiner's test and is loaded as
that entry; the block it forms of its roster is 15 bytes and is loaded as that roster. -/
def Obligations.BlocksReadBack : Prop :=
  (∀ e : ZoneEntry, e.wf = true →
     (zoneBlock e).length = 15 ∧ blockEntry (zoneBlock e) = e ∧ zoneBlockValid (zoneBlock e) = true)
  ∧ (∀ (r : Roster) (p : Nat), r.progress = some p → p ≤ 64 → r.joinQueue.length ≤ 14 →
       (rosterBlock r).length = 15 ∧ blockRoster (rosterBlock r) = r)

/-- A message formed from a kind, a sender, a basis and a payload is read with those fields and passes the
CRC check; a driven status slot is read as present, with its mode and its counter. -/
def Obligations.LineLayoutsReadBack : Prop :=
  (∀ (k : Kind) (sender : Addr) (basis : Byte) (payload : List Byte), payload.length ≤ 16 →
     kindOf (formMessage k sender basis payload) = some k
     ∧ senderOf (formMessage k sender basis payload) = sender
     ∧ basisOf (formMessage k sender basis payload) = basis
     ∧ payloadOf (formMessage k sender basis payload) =
         payload ++ List.replicate (16 - payload.length) 0
     ∧ crcPasses (formMessage k sender basis payload) = true)
  ∧ (∀ d : SlotDrive, d.mode ≠ .unknown →
       slotPresent (slotWord d) = true ∧ slotMode (slotWord d) = d.mode
       ∧ slotCounter (slotWord d) = d.counter)

/-! ## Forms every step keeps -/

/-- The state after reset has every form below. -/
def Obligations.ResetIsWellFormed : Prop :=
  State.reset.wf = true

/-- Every step keeps the event queue's form: at most 31 records and an OVERFLOW after them, consecutive
numbers, a lost count of 1 to 255, and a fetched count only for an OVERFLOW head. -/
def Obligations.EventQueueFormKept : Prop :=
  ∀ s t : State, s.events.wf = true → step s = .next t → t.events.wf = true

/-- Every step keeps the send queue's form (at most eight entries with distinct tags, and entries only in
SYNCED and LEAVING), the form of the own waits list (no two records for one zone, and with the entries that carry
the wait flag at most 16, R155, R157), and the message in flight and the entry in flight together, between a
selection point and the following verdict point. -/
def Obligations.SendQueueFormKept : Prop :=
  (∀ s t : State, s.sendQueue.wf = true → s.queueFits = true → step s = .next t →
     t.sendQueue.wf = true ∧ t.queueFits = true)
  ∧ (∀ s t : State, s.flightFits = true → step s = .next t → t.flightFits = true)

/-- Every step keeps the form of all 64 zone entries. -/
def Obligations.ZoneTableFormKept : Prop :=
  ∀ s t : State, ZoneTable.wf s.zones = true → step s = .next t → ZoneTable.wf t.zones = true

/-- Every step keeps the form of the roster, and a SYNCED station a MEMBER in it. -/
def Obligations.RosterFormKept : Prop :=
  ∀ s t : State, s.rosterFits = true → step s = .next t → t.rosterFits = true

/-- Every step keeps the replica and the roster cleared outside the cluster (R5, R56), and what a station outside
it may drive: no stance (R43), no message in flight in OFFLINE, STANDBY and FAULTED (R118), and in FAULTED no
slot (R115). In FAULTED it then drives no bit of the line, and in OFFLINE none but those of a slot that was being
driven at a STOP.
That a STOP leaves the slot being driven to its end is the model's reading of R97 and R138 against R133
(assumption 14). -/
def Obligations.OutsideFormKept : Prop :=
  (∀ s t : State, s.clearedOutside = true → s.silentFits = true → step s = .next t →
     t.clearedOutside = true ∧ t.silentFits = true)
  ∧ (∀ (s : State) (bit : Fin 512), s.silentFits = true → s.station = .faulted →
       s.pldDominant bit = false)
  ∧ (∀ (s : State) (bit : Fin 512), s.silentFits = true → s.station = .offline →
       s.pldDominant bit = true → ∃ d, s.line.slotDrive = some d ∧ isSlotBit bit d.address = true)

/-- Every step keeps every count in the range the manual gives it: the counts of the Station Controller, the peer
watch and the divergence count (below 2, R73), the loaded-block count (to 65) and the stall count (to 128,
and below it outside DOUBT) (R76, R91), the hold-offs (R129), the attempts of an entry (R128, Table 8-1), the run count
(below 3, R145), the stretch and the line counters. -/
def Obligations.RangesKept : Prop :=
  ∀ s t : State, s.inRange = true → step s = .next t → t.inRange = true

/-- Every step keeps the form of the transaction record. That the record is empty in IDLE, CS_RISE taking every item
of it to its reset value, is the model's choice (assumption 18). -/
def Obligations.PortFormKept : Prop :=
  ∀ s t : State, s.port.wf = true → step s = .next t → t.port.wf = true
end

