-- ==== Sys2Proof/Laws/State.lean ====
section
/-! SUPPORT. What each update of one block does to each block: one lemma per update and block. -/

namespace Sys2Proof.Machine

/-! ## setController -/

@[simp] theorem State.setController_controller (s : State) (v : Controller) : (s.setController v).controller = v := rfl
@[simp] theorem State.setController_policy (s : State) (v : Controller) : (s.setController v).policy = s.policy := rfl
@[simp] theorem State.setController_sendQueue (s : State) (v : Controller) : (s.setController v).sendQueue = s.sendQueue := rfl
@[simp] theorem State.setController_events (s : State) (v : Controller) : (s.setController v).events = s.events := rfl
@[simp] theorem State.setController_zones (s : State) (v : Controller) : (s.setController v).zones = s.zones := rfl
@[simp] theorem State.setController_roster (s : State) (v : Controller) : (s.setController v).roster = s.roster := rfl
@[simp] theorem State.setController_monitor (s : State) (v : Controller) : (s.setController v).monitor = s.monitor := rfl
@[simp] theorem State.setController_snapshot (s : State) (v : Controller) : (s.setController v).snapshot = s.snapshot := rfl
@[simp] theorem State.setController_selector (s : State) (v : Controller) : (s.setController v).selector = s.selector := rfl
@[simp] theorem State.setController_verdict (s : State) (v : Controller) : (s.setController v).verdict = s.verdict := rfl
@[simp] theorem State.setController_line (s : State) (v : Controller) : (s.setController v).line = s.line := rfl
@[simp] theorem State.setController_port (s : State) (v : Controller) : (s.setController v).port = s.port := rfl
@[simp] theorem State.setController_pending (s : State) (v : Controller) : (s.setController v).pending = s.pending := rfl

/-! ## setPolicy -/

@[simp] theorem State.setPolicy_controller (s : State) (v : Policy) : (s.setPolicy v).controller = s.controller := rfl
@[simp] theorem State.setPolicy_policy (s : State) (v : Policy) : (s.setPolicy v).policy = v := rfl
@[simp] theorem State.setPolicy_sendQueue (s : State) (v : Policy) : (s.setPolicy v).sendQueue = s.sendQueue := rfl
@[simp] theorem State.setPolicy_events (s : State) (v : Policy) : (s.setPolicy v).events = s.events := rfl
@[simp] theorem State.setPolicy_zones (s : State) (v : Policy) : (s.setPolicy v).zones = s.zones := rfl
@[simp] theorem State.setPolicy_roster (s : State) (v : Policy) : (s.setPolicy v).roster = s.roster := rfl
@[simp] theorem State.setPolicy_monitor (s : State) (v : Policy) : (s.setPolicy v).monitor = s.monitor := rfl
@[simp] theorem State.setPolicy_snapshot (s : State) (v : Policy) : (s.setPolicy v).snapshot = s.snapshot := rfl
@[simp] theorem State.setPolicy_selector (s : State) (v : Policy) : (s.setPolicy v).selector = s.selector := rfl
@[simp] theorem State.setPolicy_verdict (s : State) (v : Policy) : (s.setPolicy v).verdict = s.verdict := rfl
@[simp] theorem State.setPolicy_line (s : State) (v : Policy) : (s.setPolicy v).line = s.line := rfl
@[simp] theorem State.setPolicy_port (s : State) (v : Policy) : (s.setPolicy v).port = s.port := rfl
@[simp] theorem State.setPolicy_pending (s : State) (v : Policy) : (s.setPolicy v).pending = s.pending := rfl

/-! ## setSendQueue -/

@[simp] theorem State.setSendQueue_controller (s : State) (v : SendQueue) : (s.setSendQueue v).controller = s.controller := rfl
@[simp] theorem State.setSendQueue_policy (s : State) (v : SendQueue) : (s.setSendQueue v).policy = s.policy := rfl
@[simp] theorem State.setSendQueue_sendQueue (s : State) (v : SendQueue) : (s.setSendQueue v).sendQueue = v := rfl
@[simp] theorem State.setSendQueue_events (s : State) (v : SendQueue) : (s.setSendQueue v).events = s.events := rfl
@[simp] theorem State.setSendQueue_zones (s : State) (v : SendQueue) : (s.setSendQueue v).zones = s.zones := rfl
@[simp] theorem State.setSendQueue_roster (s : State) (v : SendQueue) : (s.setSendQueue v).roster = s.roster := rfl
@[simp] theorem State.setSendQueue_monitor (s : State) (v : SendQueue) : (s.setSendQueue v).monitor = s.monitor := rfl
@[simp] theorem State.setSendQueue_snapshot (s : State) (v : SendQueue) : (s.setSendQueue v).snapshot = s.snapshot := rfl
@[simp] theorem State.setSendQueue_selector (s : State) (v : SendQueue) : (s.setSendQueue v).selector = s.selector := rfl
@[simp] theorem State.setSendQueue_verdict (s : State) (v : SendQueue) : (s.setSendQueue v).verdict = s.verdict := rfl
@[simp] theorem State.setSendQueue_line (s : State) (v : SendQueue) : (s.setSendQueue v).line = s.line := rfl
@[simp] theorem State.setSendQueue_port (s : State) (v : SendQueue) : (s.setSendQueue v).port = s.port := rfl
@[simp] theorem State.setSendQueue_pending (s : State) (v : SendQueue) : (s.setSendQueue v).pending = s.pending := rfl

/-! ## setEvents -/

@[simp] theorem State.setEvents_controller (s : State) (v : EventQueue) : (s.setEvents v).controller = s.controller := rfl
@[simp] theorem State.setEvents_policy (s : State) (v : EventQueue) : (s.setEvents v).policy = s.policy := rfl
@[simp] theorem State.setEvents_sendQueue (s : State) (v : EventQueue) : (s.setEvents v).sendQueue = s.sendQueue := rfl
@[simp] theorem State.setEvents_events (s : State) (v : EventQueue) : (s.setEvents v).events = v := rfl
@[simp] theorem State.setEvents_zones (s : State) (v : EventQueue) : (s.setEvents v).zones = s.zones := rfl
@[simp] theorem State.setEvents_roster (s : State) (v : EventQueue) : (s.setEvents v).roster = s.roster := rfl
@[simp] theorem State.setEvents_monitor (s : State) (v : EventQueue) : (s.setEvents v).monitor = s.monitor := rfl
@[simp] theorem State.setEvents_snapshot (s : State) (v : EventQueue) : (s.setEvents v).snapshot = s.snapshot := rfl
@[simp] theorem State.setEvents_selector (s : State) (v : EventQueue) : (s.setEvents v).selector = s.selector := rfl
@[simp] theorem State.setEvents_verdict (s : State) (v : EventQueue) : (s.setEvents v).verdict = s.verdict := rfl
@[simp] theorem State.setEvents_line (s : State) (v : EventQueue) : (s.setEvents v).line = s.line := rfl
@[simp] theorem State.setEvents_port (s : State) (v : EventQueue) : (s.setEvents v).port = s.port := rfl
@[simp] theorem State.setEvents_pending (s : State) (v : EventQueue) : (s.setEvents v).pending = s.pending := rfl

/-! ## setZones -/

@[simp] theorem State.setZones_controller (s : State) (v : ZoneTable) : (s.setZones v).controller = s.controller := rfl
@[simp] theorem State.setZones_policy (s : State) (v : ZoneTable) : (s.setZones v).policy = s.policy := rfl
@[simp] theorem State.setZones_sendQueue (s : State) (v : ZoneTable) : (s.setZones v).sendQueue = s.sendQueue := rfl
@[simp] theorem State.setZones_events (s : State) (v : ZoneTable) : (s.setZones v).events = s.events := rfl
@[simp] theorem State.setZones_zones (s : State) (v : ZoneTable) : (s.setZones v).zones = v := rfl
@[simp] theorem State.setZones_roster (s : State) (v : ZoneTable) : (s.setZones v).roster = s.roster := rfl
@[simp] theorem State.setZones_monitor (s : State) (v : ZoneTable) : (s.setZones v).monitor = s.monitor := rfl
@[simp] theorem State.setZones_snapshot (s : State) (v : ZoneTable) : (s.setZones v).snapshot = s.snapshot := rfl
@[simp] theorem State.setZones_selector (s : State) (v : ZoneTable) : (s.setZones v).selector = s.selector := rfl
@[simp] theorem State.setZones_verdict (s : State) (v : ZoneTable) : (s.setZones v).verdict = s.verdict := rfl
@[simp] theorem State.setZones_line (s : State) (v : ZoneTable) : (s.setZones v).line = s.line := rfl
@[simp] theorem State.setZones_port (s : State) (v : ZoneTable) : (s.setZones v).port = s.port := rfl
@[simp] theorem State.setZones_pending (s : State) (v : ZoneTable) : (s.setZones v).pending = s.pending := rfl

/-! ## setRoster -/

@[simp] theorem State.setRoster_controller (s : State) (v : Roster) : (s.setRoster v).controller = s.controller := rfl
@[simp] theorem State.setRoster_policy (s : State) (v : Roster) : (s.setRoster v).policy = s.policy := rfl
@[simp] theorem State.setRoster_sendQueue (s : State) (v : Roster) : (s.setRoster v).sendQueue = s.sendQueue := rfl
@[simp] theorem State.setRoster_events (s : State) (v : Roster) : (s.setRoster v).events = s.events := rfl
@[simp] theorem State.setRoster_zones (s : State) (v : Roster) : (s.setRoster v).zones = s.zones := rfl
@[simp] theorem State.setRoster_roster (s : State) (v : Roster) : (s.setRoster v).roster = v := rfl
@[simp] theorem State.setRoster_monitor (s : State) (v : Roster) : (s.setRoster v).monitor = s.monitor := rfl
@[simp] theorem State.setRoster_snapshot (s : State) (v : Roster) : (s.setRoster v).snapshot = s.snapshot := rfl
@[simp] theorem State.setRoster_selector (s : State) (v : Roster) : (s.setRoster v).selector = s.selector := rfl
@[simp] theorem State.setRoster_verdict (s : State) (v : Roster) : (s.setRoster v).verdict = s.verdict := rfl
@[simp] theorem State.setRoster_line (s : State) (v : Roster) : (s.setRoster v).line = s.line := rfl
@[simp] theorem State.setRoster_port (s : State) (v : Roster) : (s.setRoster v).port = s.port := rfl
@[simp] theorem State.setRoster_pending (s : State) (v : Roster) : (s.setRoster v).pending = s.pending := rfl

/-! ## setMonitor -/

@[simp] theorem State.setMonitor_controller (s : State) (v : Monitor) : (s.setMonitor v).controller = s.controller := rfl
@[simp] theorem State.setMonitor_policy (s : State) (v : Monitor) : (s.setMonitor v).policy = s.policy := rfl
@[simp] theorem State.setMonitor_sendQueue (s : State) (v : Monitor) : (s.setMonitor v).sendQueue = s.sendQueue := rfl
@[simp] theorem State.setMonitor_events (s : State) (v : Monitor) : (s.setMonitor v).events = s.events := rfl
@[simp] theorem State.setMonitor_zones (s : State) (v : Monitor) : (s.setMonitor v).zones = s.zones := rfl
@[simp] theorem State.setMonitor_roster (s : State) (v : Monitor) : (s.setMonitor v).roster = s.roster := rfl
@[simp] theorem State.setMonitor_monitor (s : State) (v : Monitor) : (s.setMonitor v).monitor = v := rfl
@[simp] theorem State.setMonitor_snapshot (s : State) (v : Monitor) : (s.setMonitor v).snapshot = s.snapshot := rfl
@[simp] theorem State.setMonitor_selector (s : State) (v : Monitor) : (s.setMonitor v).selector = s.selector := rfl
@[simp] theorem State.setMonitor_verdict (s : State) (v : Monitor) : (s.setMonitor v).verdict = s.verdict := rfl
@[simp] theorem State.setMonitor_line (s : State) (v : Monitor) : (s.setMonitor v).line = s.line := rfl
@[simp] theorem State.setMonitor_port (s : State) (v : Monitor) : (s.setMonitor v).port = s.port := rfl
@[simp] theorem State.setMonitor_pending (s : State) (v : Monitor) : (s.setMonitor v).pending = s.pending := rfl

/-! ## setSnapshot -/

@[simp] theorem State.setSnapshot_controller (s : State) (v : Snapshot) : (s.setSnapshot v).controller = s.controller := rfl
@[simp] theorem State.setSnapshot_policy (s : State) (v : Snapshot) : (s.setSnapshot v).policy = s.policy := rfl
@[simp] theorem State.setSnapshot_sendQueue (s : State) (v : Snapshot) : (s.setSnapshot v).sendQueue = s.sendQueue := rfl
@[simp] theorem State.setSnapshot_events (s : State) (v : Snapshot) : (s.setSnapshot v).events = s.events := rfl
@[simp] theorem State.setSnapshot_zones (s : State) (v : Snapshot) : (s.setSnapshot v).zones = s.zones := rfl
@[simp] theorem State.setSnapshot_roster (s : State) (v : Snapshot) : (s.setSnapshot v).roster = s.roster := rfl
@[simp] theorem State.setSnapshot_monitor (s : State) (v : Snapshot) : (s.setSnapshot v).monitor = s.monitor := rfl
@[simp] theorem State.setSnapshot_snapshot (s : State) (v : Snapshot) : (s.setSnapshot v).snapshot = v := rfl
@[simp] theorem State.setSnapshot_selector (s : State) (v : Snapshot) : (s.setSnapshot v).selector = s.selector := rfl
@[simp] theorem State.setSnapshot_verdict (s : State) (v : Snapshot) : (s.setSnapshot v).verdict = s.verdict := rfl
@[simp] theorem State.setSnapshot_line (s : State) (v : Snapshot) : (s.setSnapshot v).line = s.line := rfl
@[simp] theorem State.setSnapshot_port (s : State) (v : Snapshot) : (s.setSnapshot v).port = s.port := rfl
@[simp] theorem State.setSnapshot_pending (s : State) (v : Snapshot) : (s.setSnapshot v).pending = s.pending := rfl

/-! ## setSelector -/

@[simp] theorem State.setSelector_controller (s : State) (v : Selector) : (s.setSelector v).controller = s.controller := rfl
@[simp] theorem State.setSelector_policy (s : State) (v : Selector) : (s.setSelector v).policy = s.policy := rfl
@[simp] theorem State.setSelector_sendQueue (s : State) (v : Selector) : (s.setSelector v).sendQueue = s.sendQueue := rfl
@[simp] theorem State.setSelector_events (s : State) (v : Selector) : (s.setSelector v).events = s.events := rfl
@[simp] theorem State.setSelector_zones (s : State) (v : Selector) : (s.setSelector v).zones = s.zones := rfl
@[simp] theorem State.setSelector_roster (s : State) (v : Selector) : (s.setSelector v).roster = s.roster := rfl
@[simp] theorem State.setSelector_monitor (s : State) (v : Selector) : (s.setSelector v).monitor = s.monitor := rfl
@[simp] theorem State.setSelector_snapshot (s : State) (v : Selector) : (s.setSelector v).snapshot = s.snapshot := rfl
@[simp] theorem State.setSelector_selector (s : State) (v : Selector) : (s.setSelector v).selector = v := rfl
@[simp] theorem State.setSelector_verdict (s : State) (v : Selector) : (s.setSelector v).verdict = s.verdict := rfl
@[simp] theorem State.setSelector_line (s : State) (v : Selector) : (s.setSelector v).line = s.line := rfl
@[simp] theorem State.setSelector_port (s : State) (v : Selector) : (s.setSelector v).port = s.port := rfl
@[simp] theorem State.setSelector_pending (s : State) (v : Selector) : (s.setSelector v).pending = s.pending := rfl

/-! ## setVerdict -/

@[simp] theorem State.setVerdict_controller (s : State) (v : VerdictUnit) : (s.setVerdict v).controller = s.controller := rfl
@[simp] theorem State.setVerdict_policy (s : State) (v : VerdictUnit) : (s.setVerdict v).policy = s.policy := rfl
@[simp] theorem State.setVerdict_sendQueue (s : State) (v : VerdictUnit) : (s.setVerdict v).sendQueue = s.sendQueue := rfl
@[simp] theorem State.setVerdict_events (s : State) (v : VerdictUnit) : (s.setVerdict v).events = s.events := rfl
@[simp] theorem State.setVerdict_zones (s : State) (v : VerdictUnit) : (s.setVerdict v).zones = s.zones := rfl
@[simp] theorem State.setVerdict_roster (s : State) (v : VerdictUnit) : (s.setVerdict v).roster = s.roster := rfl
@[simp] theorem State.setVerdict_monitor (s : State) (v : VerdictUnit) : (s.setVerdict v).monitor = s.monitor := rfl
@[simp] theorem State.setVerdict_snapshot (s : State) (v : VerdictUnit) : (s.setVerdict v).snapshot = s.snapshot := rfl
@[simp] theorem State.setVerdict_selector (s : State) (v : VerdictUnit) : (s.setVerdict v).selector = s.selector := rfl
@[simp] theorem State.setVerdict_verdict (s : State) (v : VerdictUnit) : (s.setVerdict v).verdict = v := rfl
@[simp] theorem State.setVerdict_line (s : State) (v : VerdictUnit) : (s.setVerdict v).line = s.line := rfl
@[simp] theorem State.setVerdict_port (s : State) (v : VerdictUnit) : (s.setVerdict v).port = s.port := rfl
@[simp] theorem State.setVerdict_pending (s : State) (v : VerdictUnit) : (s.setVerdict v).pending = s.pending := rfl

/-! ## setLine -/

@[simp] theorem State.setLine_controller (s : State) (v : Line) : (s.setLine v).controller = s.controller := rfl
@[simp] theorem State.setLine_policy (s : State) (v : Line) : (s.setLine v).policy = s.policy := rfl
@[simp] theorem State.setLine_sendQueue (s : State) (v : Line) : (s.setLine v).sendQueue = s.sendQueue := rfl
@[simp] theorem State.setLine_events (s : State) (v : Line) : (s.setLine v).events = s.events := rfl
@[simp] theorem State.setLine_zones (s : State) (v : Line) : (s.setLine v).zones = s.zones := rfl
@[simp] theorem State.setLine_roster (s : State) (v : Line) : (s.setLine v).roster = s.roster := rfl
@[simp] theorem State.setLine_monitor (s : State) (v : Line) : (s.setLine v).monitor = s.monitor := rfl
@[simp] theorem State.setLine_snapshot (s : State) (v : Line) : (s.setLine v).snapshot = s.snapshot := rfl
@[simp] theorem State.setLine_selector (s : State) (v : Line) : (s.setLine v).selector = s.selector := rfl
@[simp] theorem State.setLine_verdict (s : State) (v : Line) : (s.setLine v).verdict = s.verdict := rfl
@[simp] theorem State.setLine_line (s : State) (v : Line) : (s.setLine v).line = v := rfl
@[simp] theorem State.setLine_port (s : State) (v : Line) : (s.setLine v).port = s.port := rfl
@[simp] theorem State.setLine_pending (s : State) (v : Line) : (s.setLine v).pending = s.pending := rfl

/-! ## setPort -/

@[simp] theorem State.setPort_controller (s : State) (v : Port) : (s.setPort v).controller = s.controller := rfl
@[simp] theorem State.setPort_policy (s : State) (v : Port) : (s.setPort v).policy = s.policy := rfl
@[simp] theorem State.setPort_sendQueue (s : State) (v : Port) : (s.setPort v).sendQueue = s.sendQueue := rfl
@[simp] theorem State.setPort_events (s : State) (v : Port) : (s.setPort v).events = s.events := rfl
@[simp] theorem State.setPort_zones (s : State) (v : Port) : (s.setPort v).zones = s.zones := rfl
@[simp] theorem State.setPort_roster (s : State) (v : Port) : (s.setPort v).roster = s.roster := rfl
@[simp] theorem State.setPort_monitor (s : State) (v : Port) : (s.setPort v).monitor = s.monitor := rfl
@[simp] theorem State.setPort_snapshot (s : State) (v : Port) : (s.setPort v).snapshot = s.snapshot := rfl
@[simp] theorem State.setPort_selector (s : State) (v : Port) : (s.setPort v).selector = s.selector := rfl
@[simp] theorem State.setPort_verdict (s : State) (v : Port) : (s.setPort v).verdict = s.verdict := rfl
@[simp] theorem State.setPort_line (s : State) (v : Port) : (s.setPort v).line = s.line := rfl
@[simp] theorem State.setPort_port (s : State) (v : Port) : (s.setPort v).port = v := rfl
@[simp] theorem State.setPort_pending (s : State) (v : Port) : (s.setPort v).pending = s.pending := rfl

/-! ## setPending -/

@[simp] theorem State.setPending_controller (s : State) (v : List Instr) : (s.setPending v).controller = s.controller := rfl
@[simp] theorem State.setPending_policy (s : State) (v : List Instr) : (s.setPending v).policy = s.policy := rfl
@[simp] theorem State.setPending_sendQueue (s : State) (v : List Instr) : (s.setPending v).sendQueue = s.sendQueue := rfl
@[simp] theorem State.setPending_events (s : State) (v : List Instr) : (s.setPending v).events = s.events := rfl
@[simp] theorem State.setPending_zones (s : State) (v : List Instr) : (s.setPending v).zones = s.zones := rfl
@[simp] theorem State.setPending_roster (s : State) (v : List Instr) : (s.setPending v).roster = s.roster := rfl
@[simp] theorem State.setPending_monitor (s : State) (v : List Instr) : (s.setPending v).monitor = s.monitor := rfl
@[simp] theorem State.setPending_snapshot (s : State) (v : List Instr) : (s.setPending v).snapshot = s.snapshot := rfl
@[simp] theorem State.setPending_selector (s : State) (v : List Instr) : (s.setPending v).selector = s.selector := rfl
@[simp] theorem State.setPending_verdict (s : State) (v : List Instr) : (s.setPending v).verdict = s.verdict := rfl
@[simp] theorem State.setPending_line (s : State) (v : List Instr) : (s.setPending v).line = s.line := rfl
@[simp] theorem State.setPending_port (s : State) (v : List Instr) : (s.setPending v).port = s.port := rfl
@[simp] theorem State.setPending_pending (s : State) (v : List Instr) : (s.setPending v).pending = v := rfl

/-! ## Placing records and changing the local state -/

theorem State.place_eq (s : State) (r : EventRecord) :
    s.place r = s.setEvents (s.events.place r) := rfl

theorem State.placeAll_eq (s : State) (rs : List EventRecord) :
    s.placeAll rs = s.setEvents (rs.foldl EventQueue.place s.events) := rfl

@[simp] theorem State.placeAll_nil (s : State) : s.placeAll [] = s := rfl

theorem State.changeStation_eq (s : State) (st : StationState) (reason : StateReason) (held : Nat) :
    s.changeStation st reason held =
      (s.setController { s.controller with station := st }).setEvents
        (s.events.place (.state s.controller.station st reason held)) := rfl

@[simp] theorem State.changeStation_station (s : State) (st : StationState) (reason : StateReason)
    (held : Nat) : (s.changeStation st reason held).station = st := rfl

end Sys2Proof.Machine
end

