-- ==== Sys2Proof/Laws/Frame.lean ====
section
/-! SUPPORT. What no event of the peer line and no change of local state touches: the Policy Table, the
Host Port, the queue of commands, the configuration record and its flag. -/

namespace Sys2Proof.Machine

/-- The part of the station that only its host and its pins change. -/
structure Outer where
  policy     : Policy
  port       : Port
  pending    : List Instr
  configured : Bool
  config     : ConfigRecord

/-- That part of a state. -/
def State.outer (s : State) : Outer :=
  { policy := s.policy, port := s.port, pending := s.pending
    configured := s.controller.configured, config := s.controller.config }

/-! ## Placing records and ending entries -/

@[simp] theorem State.place_outer (s : State) (r : EventRecord) : (s.place r).outer = s.outer := rfl
@[simp] theorem State.placeAll_outer (s : State) (rs : List EventRecord) :
    (s.placeAll rs).outer = s.outer := rfl
@[simp] theorem State.setStation_outer (s : State) (st : StationState) :
    (s.setStation st).outer = s.outer := rfl
@[simp] theorem State.changeStation_outer (s : State) (st : StationState) (reason : StateReason)
    (held : Nat) : (s.changeStation st reason held).outer = s.outer := rfl
@[simp] theorem State.setSendQueue_outer (s : State) (v : SendQueue) :
    (s.setSendQueue v).outer = s.outer := rfl
@[simp] theorem State.setEvents_outer (s : State) (v : EventQueue) :
    (s.setEvents v).outer = s.outer := rfl
@[simp] theorem State.setZones_outer (s : State) (v : ZoneTable) :
    (s.setZones v).outer = s.outer := rfl
@[simp] theorem State.setRoster_outer (s : State) (v : Roster) : (s.setRoster v).outer = s.outer := rfl
@[simp] theorem State.setMonitor_outer (s : State) (v : Monitor) :
    (s.setMonitor v).outer = s.outer := rfl
@[simp] theorem State.setSnapshot_outer (s : State) (v : Snapshot) :
    (s.setSnapshot v).outer = s.outer := rfl
@[simp] theorem State.setSelector_outer (s : State) (v : Selector) :
    (s.setSelector v).outer = s.outer := rfl
@[simp] theorem State.setVerdict_outer (s : State) (v : VerdictUnit) :
    (s.setVerdict v).outer = s.outer := rfl
@[simp] theorem State.setLine_outer (s : State) (v : Line) : (s.setLine v).outer = s.outer := rfl
@[simp] theorem State.withdrawAll_outer (s : State) : s.withdrawAll.outer = s.outer := rfl
@[simp] theorem State.withdrawWaiting_outer (s : State) : s.withdrawWaiting.outer = s.outer := rfl
@[simp] theorem State.abandonQueue_outer (s : State) : s.abandonQueue.outer = s.outer := rfl

@[simp] theorem State.endEntry_outer (s : State) (tag : Byte) (o : RequestOutcome)
    (position : Option Nat) (set : Option StationSet) (commit : Option (BitVec 16)) :
    (s.endEntry tag o position set commit).outer = s.outer := by
  unfold State.endEntry
  split <;> rfl

/-! ## Changes of local state -/

@[simp] theorem State.beginSeeking_outer (s : State) : s.beginSeeking.outer = s.outer := rfl
@[simp] theorem State.clearCluster_outer (s : State) : s.clearCluster.outer = s.outer := rfl
@[simp] theorem State.depart_outer (s : State) (st : StationState) (reason : StateReason) :
    (s.depart st reason).outer = s.outer := rfl

@[simp] theorem State.rejoin_outer (s : State) (old : StationState) :
    (s.rejoin old).outer = s.outer := by
  unfold State.rejoin
  split <;> rfl

@[simp] theorem State.arriveStandby_outer (s : State) (reason : StateReason) :
    (s.arriveStandby reason).outer = s.outer := by
  simp [State.arriveStandby]

@[simp] theorem State.backToSeeking_outer (s : State) (reason : StateReason) :
    (s.backToSeeking reason).outer = s.outer := rfl
@[simp] theorem State.enterDoubt_outer (s : State) (reason : StateReason) :
    (s.enterDoubt reason).outer = s.outer := rfl
@[simp] theorem State.enterFaulted_outer (s : State) (reason : StateReason) :
    (s.enterFaulted reason).outer = s.outer := rfl
@[simp] theorem State.enterSynced_outer (s : State) (reason : StateReason) :
    (s.enterSynced reason).outer = s.outer := rfl
@[simp] theorem State.enterJoining_outer (s : State) : s.enterJoining.outer = s.outer := rfl

/-! ## The end of a cycle, counters and readback -/

@[simp] theorem State.runHoldOffs_outer (s : State) : s.runHoldOffs.outer = s.outer := by
  unfold State.runHoldOffs
  split <;> rfl

@[simp] theorem State.joinStall_outer (s : State) : s.joinStall.outer = s.outer := by
  unfold State.joinStall
  split <;> simp

@[simp] theorem State.countStall_outer (s : State) : s.countStall.outer = s.outer := rfl

@[simp] theorem State.stallStep_outer (s : State) : s.stallStep.outer = s.outer := by
  unfold State.stallStep
  split
  · simp
  · split <;> simp

@[simp] theorem State.dropFlight_outer (s : State) : s.dropFlight.outer = s.outer := rfl
@[simp] theorem State.countCommit_outer (s : State) : s.countCommit.outer = s.outer := rfl
@[simp] theorem State.countCrcError_outer (s : State) : s.countCrcError.outer = s.outer := rfl
@[simp] theorem State.countArbitrationLoss_outer (s : State) :
    s.countArbitrationLoss.outer = s.outer := rfl
@[simp] theorem State.countDisagreement_outer (s : State) : s.countDisagreement.outer = s.outer := rfl
@[simp] theorem State.countMarkFault_outer (s : State) : s.countMarkFault.outer = s.outer := rfl
@[simp] theorem State.countMismatch_outer (s : State) : s.countMismatch.outer = s.outer := rfl
@[simp] theorem State.makePoint_outer (s : State) (p : CyclePoint) (bit : Fin 512) :
    (s.makePoint p bit).outer = s.outer := rfl
@[simp] theorem State.reachBit_outer (s : State) (bit : Fin 512) : (s.reachBit bit).outer = s.outer := rfl
@[simp] theorem State.misreadBit_outer (s : State) (bit : Fin 512) :
    (s.misreadBit bit).outer = s.outer := rfl

@[simp] theorem State.ownedMismatch_outer (s : State) : s.ownedMismatch.outer = s.outer := by
  unfold State.ownedMismatch
  split
  · rfl
  · dsimp only
    split <;> simp

@[simp] theorem State.cleanSlot_outer (s : State) : s.cleanSlot.outer = s.outer := by
  unfold State.cleanSlot
  split
  · rfl
  · split <;> rfl

@[simp] theorem State.readBackSlot_outer (s : State) (slots : Slots) :
    (s.readBackSlot slots).outer = s.outer := by
  unfold State.readBackSlot
  split
  · split
    · split <;> simp
    · rfl
  · rfl

@[simp] theorem State.clearRun_outer (s : State) : s.clearRun.outer = s.outer := rfl

@[simp] theorem State.settleRun_outer (s : State) : s.settleRun.outer = s.outer := by
  unfold State.settleRun
  split <;> rfl

@[simp] theorem State.readBackVerdict_outer (s : State) (a b : VerdictCopy) :
    (s.readBackVerdict a b).outer = s.outer := by
  unfold State.readBackVerdict
  split
  · split
    · simp
    · split
      · simp
      · split <;> rfl
  · rfl

/-! ## The zone table -/

@[simp] theorem State.reportZones_outer (s : State) (before : ZoneTable)
    (changes : Vector ZoneChange 64) : (s.reportZones before changes).outer = s.outer := rfl
@[simp] theorem State.expiryPass_outer (s : State) : s.expiryPass.outer = s.outer := rfl

/-! ## Commits -/

@[simp] theorem State.commitRoster_outer (s : State) (sender : Addr) (b : Body) :
    (s.commitRoster sender b).outer = s.outer := rfl

@[simp] theorem State.endCommitted_outer (s : State) (tag : Byte) (o : ZoneOutcome) :
    (s.endCommitted tag o).outer = s.outer := by
  unfold State.endCommitted
  split <;> rfl

@[simp] theorem State.endDuty_outer (s : State) (source : Source) :
    (s.endDuty source).outer = s.outer := by
  unfold State.endDuty
  split <;> rfl

@[simp] theorem State.senderCommitted_outer (s : State) (before : ZoneTable) (sender : Addr)
    (b : Body) : (s.senderCommitted before sender b).outer = s.outer := by
  unfold State.senderCommitted
  split
  · split
    · split <;> simp
    · rfl
  · rfl

@[simp] theorem State.deliver_outer (s : State) (sender : Addr) (b : Body) :
    (s.deliver sender b).outer = s.outer := by
  unfold State.deliver
  split
  · split <;> rfl
  all_goals rfl

@[simp] theorem State.applyMessage_outer (s : State) (sender : Addr) (b : Body) :
    (s.applyMessage sender b).outer = s.outer := by
  simp [State.applyMessage]

end Sys2Proof.Machine
end

