-- ==== Sys2Proof/Laws/BitClock.lean ====
section
/-! SUPPORT. What a step with no command waiting does, case by case of the cycle position, and the small
lemmas of the position update. -/

namespace Sys2Proof.Machine

/-! ## The position update -/

@[simp] theorem State.setPosition_position (s : State) (p : CyclePosition) :
    (s.setPosition p).line.position = p := rfl
@[simp] theorem State.setPosition_point (s : State) (p : CyclePosition) :
    (s.setPosition p).line.point = s.line.point := rfl
@[simp] theorem State.setPosition_outer (s : State) (p : CyclePosition) :
    (s.setPosition p).outer = s.outer := rfl
@[simp] theorem State.setPosition_controller (s : State) (p : CyclePosition) :
    (s.setPosition p).controller = s.controller := rfl
@[simp] theorem State.setPosition_sendQueue (s : State) (p : CyclePosition) :
    (s.setPosition p).sendQueue = s.sendQueue := rfl
@[simp] theorem State.setPosition_events (s : State) (p : CyclePosition) :
    (s.setPosition p).events = s.events := rfl
@[simp] theorem State.setPosition_zones (s : State) (p : CyclePosition) :
    (s.setPosition p).zones = s.zones := rfl
@[simp] theorem State.setPosition_roster (s : State) (p : CyclePosition) :
    (s.setPosition p).roster = s.roster := rfl
@[simp] theorem State.setPosition_monitor (s : State) (p : CyclePosition) :
    (s.setPosition p).monitor = s.monitor := rfl
@[simp] theorem State.setPosition_snapshot (s : State) (p : CyclePosition) :
    (s.setPosition p).snapshot = s.snapshot := rfl
@[simp] theorem State.setPosition_selector (s : State) (p : CyclePosition) :
    (s.setPosition p).selector = s.selector := rfl
@[simp] theorem State.setPosition_verdict (s : State) (p : CyclePosition) :
    (s.setPosition p).verdict = s.verdict := rfl

theorem bitAfter_of_lt {n : Fin 512} (h : n.val + 1 < 512) : bitAfter n = .bit ⟨n.val + 1, h⟩ := by
  simp [bitAfter, h]

theorem bitAfter_last : bitAfter 511 = .due := rfl

/-! ## A step with no command waiting -/

theorem step_of_empty {s : State} (h : s.pending = []) : step s = .next (bitTime s) := by
  simp [step, h]

theorem step_of_cons {s : State} {c : Instr} {rest : List Instr} (h : s.pending = c :: rest) :
    step s = exec c (s.setPending rest) := by
  simp [step, h]

theorem bitTime_of_reset {s : State} (h : s.port.rstLow = true) : bitTime s = s := by
  simp [bitTime, h]

theorem bitTime_waiting {s : State} (h : s.line.position = .waiting) : bitTime s = s := by
  simp [bitTime, h]

theorem bitTime_bit {s : State} {n : Fin 512} (hr : s.running) (h : s.line.position = .bit n) :
    bitTime s = ((s.pointAfter n).setPosition (bitAfter n)).pointBefore n := by
  have hr' : s.port.rstLow = false := hr
  simp [bitTime, h, hr']

theorem bitTime_due {s : State} (hr : s.running) (h : s.line.position = .due) :
    bitTime s = s.setPosition (.stretch 1) := by
  have hr' : s.port.rstLow = false := hr
  simp [bitTime, h, hr']

theorem bitTime_stretch {s : State} {k : Nat} (hr : s.running) (h : s.line.position = .stretch k)
    (hk : k < 15) : bitTime s = s.setPosition (.stretch (k + 1)) := by
  have hr' : s.port.rstLow = false := hr
  simp [bitTime, h, hr', hk]

theorem bitTime_stretch_end {s : State} {k : Nat} (hr : s.running) (h : s.line.position = .stretch k)
    (hk : 15 ≤ k) : bitTime s = s.loseMark := by
  have hr' : s.port.rstLow = false := hr
  have hk' : ¬ k < 15 := by omega
  simp [bitTime, h, hr', hk']

/-! ## The points of a bit -/

/-- A point made or passed has no effect when its bit comes. -/
theorem State.takeStatus_of_not {s : State} (slots : Slots) (h : s.canMake .status = false) :
    s.takeStatus slots = s := by
  simp [State.takeStatus, h]

theorem State.takeSelection_of_not {s : State} (h : s.canMake .selection = false) :
    s.takeSelection = s := by
  simp [State.takeSelection, h]

theorem State.takeClaim_of_not {s : State} (read : ClaimRead) (h : s.canMake .claim = false) :
    s.takeClaim read = s := by
  simp [State.takeClaim, h]

theorem State.takeMessage_of_not {s : State} (m : MessageBytes) (h : s.canMake .message = false) :
    s.takeMessage m = s := by
  simp [State.takeMessage, h]

theorem State.takeVerdict_of_not {s : State} (a b : VerdictCopy) (h : s.canMake .verdict = false) :
    s.takeVerdict a b = s := by
  simp [State.takeVerdict, h]

theorem State.canMake_at_verdict {s : State} (h : s.line.point = .verdict) (p : CyclePoint) :
    s.canMake p = false := by
  cases p <;> simp [State.canMake, h, CyclePoint.rank]

/-- After the verdict point of a cycle nothing is made until the next mark. -/
theorem State.pointAfter_at_verdict {s : State} (n : Fin 512) (h : s.line.point = .verdict) :
    s.pointAfter n = s := by
  unfold State.pointAfter
  split
  · exact s.takeVerdict_of_not _ _ (s.canMake_at_verdict h _)
  · split
    · exact s.takeMessage_of_not _ (s.canMake_at_verdict h _)
    · split
      · exact s.takeClaim_of_not _ (s.canMake_at_verdict h _)
      · split
        · exact s.takeStatus_of_not _ (s.canMake_at_verdict h _)
        · rfl

/-- Away from the bits 255 and 266 on, the sample of a bit makes no point. -/
theorem State.pointAfter_quiet {s : State} {n : Fin 512} (h : n.val < 266) (h' : n.val ≠ 255) :
    s.pointAfter n = s := by
  unfold State.pointAfter
  simp [h', show ¬ 499 ≤ n.val by omega, show ¬ 431 ≤ n.val by omega, show ¬ 266 ≤ n.val by omega]

theorem State.pointBefore_of_ne {s : State} {n : Fin 512} (h : n.val ≠ 259) : s.pointBefore n = s := by
  simp [State.pointBefore, h]

end Sys2Proof.Machine
end

