-- ==== Sys2Proof/Laws/Tables.lean ====
section
/-! SUPPORT. What the tables of a fixed size, the station sets and the zone flags hold after each of
their operations. -/

namespace Sys2Proof.Machine

/-! ## Tables -/

@[simp] theorem tabulate_get {α : Type} {n : Nat} (f : Fin n → α) (i : Fin n) :
    (tabulate n f).get i = f i := by
  simp [tabulate, Vector.get, Fin.cast]

@[simp] theorem put_get_self {α : Type} {n : Nat} (v : Vector α n) (i : Fin n) (x : α) :
    (put v i x).get i = x := by
  simp [put, Vector.get, Fin.cast]

theorem put_get_of_ne {α : Type} {n : Nat} (v : Vector α n) {i j : Fin n} (x : α) (h : i ≠ j) :
    (put v i x).get j = v.get j := by
  have hv : i.val ≠ j.val := fun e => h (Fin.ext e)
  simp [put, Vector.get, Fin.cast, hv]

theorem vector_ext_get {α : Type} {n : Nat} {v w : Vector α n} (h : ∀ i, v.get i = w.get i) :
    v = w := by
  apply Vector.ext
  intro i hi
  simpa [Vector.get] using h ⟨i, hi⟩

theorem tabulate_get_eq_self {α : Type} {n : Nat} (v : Vector α n) :
    tabulate n (fun i => v.get i) = v :=
  vector_ext_get (fun i => tabulate_get _ i)

/-! ## Station sets -/

theorem mem_ext {a b : StationSet} (h : ∀ x : Addr, mem a x = mem b x) : a = b := by
  apply BitVec.eq_of_getLsbD_eq
  intro i hi
  exact h ⟨i, hi⟩

@[simp] theorem mem_empty (x : Addr) : mem 0#16 x = false := by
  simp [mem]

@[simp] theorem mem_single (a x : Addr) : mem (single a) x = decide (a = x) := by
  revert a x
  decide

@[simp] theorem mem_or (a b : StationSet) (x : Addr) : mem (a ||| b) x = (mem a x || mem b x) := by
  simp [mem]

@[simp] theorem mem_and (a b : StationSet) (x : Addr) : mem (a &&& b) x = (mem a x && mem b x) := by
  simp [mem]

@[simp] theorem mem_not (a : StationSet) (x : Addr) : mem (~~~ a) x = !mem a x := by
  simp [mem, x.isLt]

@[simp] theorem mem_insert (s : StationSet) (a x : Addr) :
    mem (insert s a) x = (mem s x || decide (a = x)) := by
  simp [insert]

@[simp] theorem mem_erase (s : StationSet) (a x : Addr) :
    mem (erase s a) x = (mem s x && !decide (a = x)) := by
  simp [erase]

@[simp] theorem mem_without (a b : StationSet) (x : Addr) :
    mem (without a b) x = (mem a x && !mem b x) := by
  simp [without]

theorem eq_empty_iff (s : StationSet) : s = 0#16 ↔ ∀ x, mem s x = false :=
  ⟨fun h x => by simp [h], fun h => mem_ext (fun x => by simp [h x])⟩

theorem subset_iff (a b : StationSet) :
    subset a b = true ↔ ∀ x, mem a x = true → mem b x = true := by
  rw [subset, beq_iff_eq, eq_empty_iff]
  constructor
  · intro h x ha
    have hx := h x
    simp [ha] at hx
    exact hx
  · intro h x
    cases ha : mem a x with
    | false => simp [ha]
    | true => simp [ha, h x ha]

theorem mem_foldl_insert (p : Addr → Bool) (l : List Addr) (s : StationSet) (x : Addr) :
    mem (l.foldl (fun set a => if p a then insert set a else set) s) x =
      (mem s x || (l.contains x && p x)) := by
  induction l generalizing s with
  | nil => simp
  | cons a l ih =>
    rw [List.foldl_cons, ih]
    by_cases hp : p a = true <;> by_cases ha : a = x
    · subst ha; simp [hp]
    · simp [hp, ha, Ne.symm ha]
    · subst ha; simp [hp]
    · simp [hp, Ne.symm ha]

@[simp] theorem mem_setOf (p : Addr → Bool) (x : Addr) : mem (setOf p) x = p x := by
  have hx : allAddrs.contains x = true := by simp [allAddrs]
  have h := mem_foldl_insert p allAddrs 0#16 x
  rw [hx, mem_empty] at h
  exact h

/-! ## The lowest address with a property -/

theorem lowest_holds {p : Addr → Bool} {a : Addr} (h : lowest p = some a) : p a = true :=
  List.find?_some h

theorem lowest_none_iff (p : Addr → Bool) : lowest p = none ↔ ∀ a, p a = false := by
  simp [lowest, allAddrs]

/-! ## Zone flags -/

theorem zoneFlag_setZoneFlag_self (flags : ZoneFlags) (z : ZoneId) (b : Bool) :
    zoneFlag (setZoneFlag flags z b) z = b := by
  have hz := z.isLt
  cases b <;> simp [zoneFlag, setZoneFlag, hz]

theorem zoneFlag_setZoneFlag_of_ne (flags : ZoneFlags) {z y : ZoneId} (b : Bool) (h : z ≠ y) :
    zoneFlag (setZoneFlag flags z b) y = zoneFlag flags y := by
  have hz := z.isLt
  have hy := y.isLt
  have hv : z.val ≠ y.val := fun e => h (Fin.ext e)
  cases b
  · simp [zoneFlag, setZoneFlag, hy]
    omega
  · simp [zoneFlag, setZoneFlag]
    omega

end Sys2Proof.Machine
end

