-- ==== Sys2Proof/Laws/Ops.lean ====
section
/-! SUPPORT. What each shared operation can do, said once: the reset gate, the taking of a command, the
event queue, the send queue, the points of the line cycle. -/

namespace Sys2Proof.Machine

/-! ## The reset gate and the taking of a command -/

theorem State.unlessReset_of_running {s t : State} (h : s.running) : s.unlessReset t = t := by
  have h' : s.port.rstLow = false := h
  simp [State.unlessReset, h']

theorem State.unlessReset_of_reset {s t : State} (h : s.port.rstLow = true) :
    s.unlessReset t = s := by
  simp [State.unlessReset, h]

theorem State.takeCommand_of_ready {s : State} {c : PortCommand} {params : List Byte} {p : Port}
    (run : State → Taken) (h : s.readyPort c params = some p) :
    s.takeCommand c params run = (run s).state.setPort (p.answer c params (run s).reply) := by
  simp [State.takeCommand, h]

theorem State.takeCommand_of_not_ready {s : State} {c : PortCommand} {params : List Byte}
    (run : State → Taken) (h : s.readyPort c params = none) : s.takeCommand c params run = s := by
  simp [State.takeCommand, h]

/-- The port a command finds is the present one, or a newly opened one in IDLE with CS# high. -/
theorem State.readyPort_cases {s : State} {c : PortCommand} {params : List Byte} {p : Port}
    (h : s.readyPort c params = some p) :
    (s.port.phase = .idle ∧ s.port.csLow = false ∧ p = s.openPort) ∨ p = s.port := by
  unfold State.readyPort at h
  split at h
  · split at h
    · exact absurd h (by simp)
    · rename_i h1 h2
      exact .inl ⟨h1, by simpa using h2, (Option.some.inj h).symm⟩
  · exact .inr (Option.some.inj h).symm
  · split at h
    · exact .inr (Option.some.inj h).symm
    · exact absurd h (by simp)
  · exact absurd h (by simp)
  · exact absurd h (by simp)

/-! ## The event queue -/

theorem EventQueue.append_records (q : EventQueue) (r : EventRecord) :
    (q.append r).records = q.records ++ [{ sequence := q.nextSequence, record := r }] := rfl

theorem EventQueue.append_nextSequence (q : EventQueue) (r : EventRecord) :
    (q.append r).nextSequence = q.nextSequence + 1 := rfl

theorem EventQueue.append_fetched (q : EventQueue) (r : EventRecord) :
    (q.append r).fetched = q.fetched := rfl

/-- The three courses of a placed record (R163). -/
theorem EventQueue.place_cases (q : EventQueue) (r : EventRecord) :
    (∃ n lost, q.records.getLast? = some { sequence := n, record := .overflow lost }
      ∧ q.place r =
          { q with
            records := q.records.dropLast ++
              [{ sequence := n, record := .overflow (saturate Config.lostMax lost) }] })
    ∨ (q.records.length < Config.eventRoom ∧ q.place r = q.append r)
    ∨ (Config.eventRoom ≤ q.records.length ∧ q.place r = q.append (.overflow 1)) := by
  unfold EventQueue.place
  split
  · rename_i n lost h
    exact .inl ⟨n, lost, h, rfl⟩
  · split
    · rename_i h
      exact .inr (.inl ⟨h, rfl⟩)
    · rename_i h
      exact .inr (.inr ⟨Nat.le_of_not_lt h, rfl⟩)

/-! ## The send queue -/

theorem SendQueue.find_tag {q : SendQueue} {tag : Byte} {e : SendEntry} (h : q.find tag = some e) :
    e.tag = tag := by
  have := List.find?_some h
  simpa using this

theorem SendQueue.find_drop (q : SendQueue) (tag : Byte) : (q.drop tag).find tag = none := by
  simp [SendQueue.find, SendQueue.drop]

/-- A changed entry is found changed, when the change keeps the tag. -/
theorem SendQueue.find_change {q : SendQueue} {tag : Byte} {e : SendEntry}
    {f : SendEntry → SendEntry} (hf : ∀ x, (f x).tag = x.tag) (h : q.find tag = some e) :
    (q.change tag f).find tag = some (f e) := by
  unfold SendQueue.find SendQueue.change at *
  generalize q.entries = l at *
  induction l with
  | nil => simp at h
  | cons a l ih =>
    by_cases ha : a.tag = tag
    · simp [ha] at h
      subst h
      simp [ha, hf]
    · have hb : (a.tag == tag) = false := by simpa using ha
      simp only [List.map_cons, ha, if_false, List.find?_cons, hb] at h ⊢
      exact ih h

theorem Source.launch_tags (source : Source) (q : SendQueue) :
    (source.launch q).entries.map SendEntry.tag = q.entries.map SendEntry.tag := by
  cases source <;> simp [Source.launch, SendQueue.change]
  intro a _
  split <;> rfl

theorem State.dropFlight_tags (s : State) :
    s.dropFlight.sendQueue.entries.map SendEntry.tag = s.sendQueue.entries.map SendEntry.tag := by
  simp [State.dropFlight]

/-! ## The message in flight -/

theorem State.contending_some {s : State} {m : InFlight} (h : s.contending = some m) :
    s.selector.inFlight = some m ∧ m.claim = .contending := by
  unfold State.contending at h
  split at h
  · split at h <;> simp_all
  · simp at h

theorem State.cleanSender_some {s : State} {m : InFlight} (h : s.cleanSender = some m) :
    s.selector.inFlight = some m ∧ m.claim = .won ∧ m.mismatchFrom = none := by
  unfold State.cleanSender at h
  split at h
  · split at h <;> simp_all
  · simp at h

/-! ## The cycle mark -/

/-- The zone table after a mark: the expiry pass on the active zones, nothing on the others. -/
theorem State.beginCycle_zones (s : State) (z : ZoneId) :
    s.beginCycle.zones.get z =
      if s.zoneActive z then (expireZone (s.zones.get z)).entry else s.zones.get z := by
  show (changedEntries (s.openCycle.zoneChanges (fun _ e => expireZone e))).get z = _
  have ha : s.openCycle.zoneActive z = s.zoneActive z := rfl
  have hz : s.openCycle.zones = s.zones := rfl
  simp only [changedEntries, State.zoneChanges, tabulate_get, ha, hz]
  split <;> rfl

/-- A mark with no zone active leaves the whole zone table. -/
theorem State.beginCycle_zones_of_inactive {s : State} (h : ∀ z, s.zoneActive z = false) :
    s.beginCycle.zones = s.zones := by
  apply vector_ext_get
  intro z
  rw [State.beginCycle_zones, h z]
  rfl

/-! ## The status point -/

/-- Clearing, settling or noting a clean slot changes at most the run count and its pending mark. -/
theorem State.cleanSlot_shape (s : State) :
    ∃ run wait, s.cleanSlot = s.setLine { s.line with runCount := run, cleanPending := wait } := by
  unfold State.cleanSlot
  split
  · exact ⟨_, _, rfl⟩
  · split <;> exact ⟨_, _, rfl⟩

theorem State.settleRun_shape (s : State) :
    ∃ run wait, s.settleRun = s.setLine { s.line with runCount := run, cleanPending := wait } := by
  unfold State.settleRun
  split <;> exact ⟨_, _, rfl⟩

/-- A slot read as driven, or no slot driven, changes at most the run count and its pending mark. -/
theorem State.readBackSlot_clean {s : State} {slots : Slots} (h : s.slotClean slots) :
    ∃ run wait, s.readBackSlot slots =
      s.setLine { s.line with runCount := run, cleanPending := wait } := by
  unfold State.readBackSlot
  split
  · rename_i d hd
    simp only [h d hd, if_true]
    split
    · exact s.cleanSlot_shape
    · exact ⟨_, _, rfl⟩
  · exact ⟨_, _, rfl⟩

/-- The mismatch counts are all that R69 changes. -/
theorem State.countSlots_shape (s : State) (slots : Slots) :
    ∃ (count : Addr → Nat) (peers : Vector PeerRecord 16),
      s.countSlots slots = s.setMonitor { s.monitor with peers := peers }
      ∧ ∀ a, peers.get a = { s.monitor.peers.get a with mismatch := count a } := by
  unfold State.countSlots
  split
  · refine ⟨fun a => mismatchSlot (s.roster.role a) (s.monitor.peers.get a) (slotOf slots a), _, rfl,
      ?_⟩
    intro a
    simp
  · refine ⟨fun _ => 0, _, rfl, ?_⟩
    intro a
    simp

/-! ## The message segment -/

/-- The winner's readback changes at most the message in flight and the mismatch counter. -/
theorem State.readBackMessage_shape (s : State) (bytes : MessageBytes) :
    ∃ flight n, s.readBackMessage bytes =
      { s with
        selector := { s.selector with inFlight := flight }
        line :=
          { s.line with counters := { s.line.counters with readbackMismatches := n } } } := by
  unfold State.readBackMessage
  split
  · split
    · exact ⟨_, _, rfl⟩
    · exact ⟨_, _, rfl⟩
  · exact ⟨_, _, rfl⟩

/-- The stance of the local state, where it takes one and a message followed the claim, is all that changes. -/
theorem State.takeStance_shape (s : State) (bytes : MessageBytes) (intact : Bool) :
    s.takeStance bytes intact =
      s.setVerdict
        { s.verdict with
          stance :=
            if s.claimHeldWinner = true ∧ s.stanceOn bytes intact ≠ .notTaken then
              s.stanceOn bytes intact
            else s.verdict.stance } := by
  unfold State.takeStance
  split
  · rename_i h
    split <;> rename_i hs <;> simp [h, hs, State.setVerdict]
  · rename_i h
    simp [h, State.setVerdict]

theorem contend_self (l : List Bool) : contend l l = .won := by
  induction l <;> simp [contend, *]

/-! ## Bits as read -/

/-- What a misread bit changes: the bits as read and the position. -/
theorem State.misreadBit_eq (s : State) (bit : Fin 512) :
    s.misreadBit bit =
      s.setLine
        { s.line with
          heard := s.heardTo bit.val, position := s.line.position.advanceTo bit } := rfl

/-- With nothing told, a bit reads as this station drives it. -/
theorem State.readLevel_of_unheard {s : State} (h : s.line.heard = []) (n : Nat) :
    s.readLevel n = s.ownLevel n := by
  simp [State.readLevel, h]

/-- A misread bit reads as the opposite of what was driven. -/
theorem State.heardTo_at (s : State) (n : Nat) : (s.heardTo n)[n]? = some (!s.ownLevel n) := by
  simp [State.heardTo]

/-- The bits before a misread bit read as they did. -/
theorem State.heardTo_before (s : State) {i n : Nat} (h : i < n) :
    (s.heardTo n)[i]? = some (s.readLevel i) := by
  unfold State.heardTo
  rw [List.getElem?_append_left (by simpa using h)]
  simp [h]

theorem State.runAtEnd_of_clean {s : State} (hp : s.line.cleanPending = true)
    (hs : s.verdict.stance = .notTaken) : s.runAtEnd = 0 := by
  simp [State.runAtEnd, hp, hs]

theorem State.runAtEnd_of_settled {s : State} (hp : s.line.cleanPending = false) :
    s.runAtEnd = s.line.runCount := by
  simp [State.runAtEnd, hp]

/-! ## Lengths of reply data -/

theorem flatMap_length_of_const {α β : Type} (l : List α) (f : α → List β) (n : Nat)
    (h : ∀ x, (f x).length = n) : (l.flatMap f).length = n * l.length := by
  induction l with
  | nil => simp
  | cons a l ih =>
    simp [ih, h, Nat.mul_add]
    omega

theorem waitersBytes_length (q : List Waiter) : (waitersBytes q).length = 8 := by
  simp [waitersBytes]

end Sys2Proof.Machine
end

