-- ==== Sys2Proof/Tests/Slice0.lean ====
section
/-! SUPPORT. Tests: ill-formed terms refused, the manual's worked tables, and for every statement with
hypotheses a concrete state and operands that meet them all. -/

namespace Sys2Proof.Tests

open Sys2Proof.Machine

set_option Elab.async false

/-! ## Small states -/

/-- A configured station at address 3 in a local state. -/
def seat (st : StationState) : State :=
  State.reset.setController
    { Controller.cleared with
      station := st, configured := true
      config := { ConfigRecord.defaults with address := some 3 } }

/-- The roster of a cluster of stations 3 and 5. -/
def duo : Roster :=
  { Roster.cleared with
    roles := put (put Roster.cleared.roles 3 .member) 5 .member, counter := 7 }

/-- A member at address 3 in a local state. -/
def inCluster (st : StationState) : State :=
  (seat st).setRoster duo

/-- A state at a point of the cycle, the position at a bit. -/
def atPoint (s : State) (p : CyclePoint) (bit : Fin 512) : State :=
  s.setLine { s.line with point := p, position := .bit bit }

/-- A state in a cycle whose claim is held, the claim-active flag set. -/
def claimed (s : State) (held : ClaimHeld) : State :=
  (s.setLine { s.line with claimActive := true }).setVerdict { s.verdict with claim := some held }

/-- A state with its Host Port in a phase, with a command and parameters. -/
def inPhase (s : State) (phase : PortPhase) (c : Option PortCommand) (params : List Byte) : State :=
  s.setPort
    { Port.cleared with
      phase := phase, status := some s.statusByte, command := c, parameters := params
      reply := if phase = .reply then some (codeReply .ok) else none, csLow := true }

/-- A state with one entry in the send queue. -/
def queued (s : State) (e : SendEntry) : State :=
  s.setSendQueue { s.sendQueue with entries := [e] }

/-- A state with a message in flight. -/
def flying (s : State) (m : InFlight) : State :=
  s.setSelector { s.selector with inFlight := some m }

/-- A RELEASE of zone 2 waiting in the send queue. -/
def releaseEntry : SendEntry :=
  { tag := 9, request := .release 2, attempts := 0, state := .waiting }

/-- The RELEASE in flight, with a claim state. -/
def releaseFlight (claim : ClaimState) : InFlight :=
  { source := .entry 9, kind := .release, cls := .urgent
    message := formMessage .release 3 7 [2], claim := claim, mismatchFrom := none }

/-- A FOUND in flight that has won. -/
def foundFlight : InFlight :=
  { source := .sync .found, kind := .found, cls := .sync, message := formMessage .found 3 0 []
    claim := .won, mismatchFrom := none }

/-- The sixteen slots of a cycle in which nobody drives. -/
def silentSlots : Slots :=
  Vector.replicate 16 0xFFFF#16

/-- A zone held EXCLUSIVE by station 3 for one cycle more. -/
def lastCycle : ZoneEntry :=
  { state := .exclusive, holders := single 3, remaining := some (.cycles 1), generation := 4
    queue := [] }

/-- The message of station 5 that claims zone 2. -/
def claimMessage : MessageBytes :=
  formMessage .claim 5 7 [2, 1, 0, 1]

/-- A member that has read the intact CLAIM of station 5, before the verdict point. -/
def receiver (st : StationState) : State :=
  let s := claimed (atPoint (inCluster st) .message 431) (.winner 2 5)
  s.setLine { s.line with receive := some claimMessage, intact := some true }

/-- A member whose RELEASE has won, before the verdict point. -/
def sender (attempts : Nat) : State :=
  flying
    (queued (claimed (atPoint (inCluster .synced) .message 431) (.winner 0 3))
      { releaseEntry with attempts := attempts, state := .inFlight })
    (releaseFlight .won)

/-- A copy in which the addresses of a set accept and none objects. -/
def accepts (set : StationSet) : VerdictCopy :=
  { accept := set, object := 0 }

/-! ## Ill-formed terms are refused -/

theorem test_note_data_fits_length : (Instr.note 1 16 2 [7, 8]).wellFormed = true := by decide
theorem test_note_data_too_short : (Instr.note 1 16 2 [7]).wellFormed = false := by decide
theorem test_note_bad_length_has_no_data : (Instr.note 1 16 13 [7]).wellFormed = false := by decide
theorem test_unknown_command_of_a_command : (Instr.unknownCommand 0x11).wellFormed = false := by decide
theorem test_command_byte_without_parameters :
    (Instr.commandByteComplete 0x11).wellFormed = false := by decide
theorem test_command_byte_of_no_command :
    (Instr.commandByteComplete 0xFF).wellFormed = false := by decide
theorem test_arbitration_loss_at_start_bit : (Instr.arbitrationLoss 0).wellFormed = false := by decide
theorem test_owned_bit_in_claim_segment : (Instr.ownedBitMismatch 260).wellFormed = false := by decide
theorem test_readback_fault_in_tail : (Instr.readbackFault 500).wellFormed = false := by decide
theorem test_owned_bit_at_edges :
    (Instr.ownedBitMismatch 255).wellFormed = true ∧ (Instr.readbackFault 436).wellFormed = true := by
  decide
theorem test_no_table_word (nbits w : Nat) : decodeTableWord nbits w = none := rfl
theorem test_no_fetch_word (s : State) (nbits w : Nat) : s.withFetchWord nbits w = s := rfl

theorem test_idle_step_is_one_bit :
    (match step (atPoint (seat .synced) .mark 10) with
     | .next t => t == atPoint (seat .synced) .mark 11
     | _ => false) = true := by
  decide +kernel
theorem test_idle_step_makes_the_status_point :
    (match step (atPoint (seat .seeking) .mark 255) with
     | .next t =>
       t.line.position == .bit 256 && t.line.point == .status && t.controller.formation == 1
     | _ => false) = true := by
  decide +kernel
theorem test_sixteenth_bit_time_loses_the_mark :
    (match step ((seat .synced).setPosition (.stretch 15)) with
     | .next t => t.line.position == .waiting && t.line.counters.markFaults == 1
     | _ => false) = true := by
  decide +kernel
theorem test_lost_mark_ends_a_clean_cycle :
    (let s := atPoint (inCluster .synced) .status 255
     (s.setLine { s.line with runCount := 2, cleanPending := true }).loseMark.line.runCount = 0) := by
  decide +kernel
theorem test_bit_time_met (p : CyclePosition) :
    ((seat .synced).setPosition p).running ∧ ((seat .synced).setPosition p).pending = []
      ∧ ((seat .synced).setPosition p).line.position = p :=
  ⟨rfl, rfl, rfl⟩
theorem test_bit_time_after_the_verdict_met :
    (atPoint (seat .synced) .verdict 266).line.point = .verdict
      ∧ (atPoint (seat .synced) .verdict 266).line.position = .bit 266
      ∧ 266 ≤ (266 : Fin 512).val := by
  decide
theorem test_mark_is_due_after_the_last_bit : bitAfter 511 = .due := by decide

/-! ## The manual's worked tables -/

/-- Zone 12 before the EVICT of station 3 (Table 1-5). -/
def zoneTwelve : ZoneEntry :=
  { state := .exclusive, holders := single 3, remaining := some (.cycles 40), generation := 7
    queue :=
      [{ station := 5, mode := .shared, duration := 2 },
       { station := 9, mode := .shared, duration := 0 },
       { station := 4, mode := .exclusive, duration := 1 }] }

/-- Zone 12 after it (Table 1-5). -/
def zoneTwelveGranted : ZoneEntry :=
  { state := .shared, holders := insert (single 5) 9, remaining := some .unlimited, generation := 8
    queue := [{ station := 4, mode := .exclusive, duration := 1 }] }

theorem test_table_1_5_removal :
    removeFromZone zoneTwelve 3 =
      { entry := zoneTwelveGranted, granted := insert (single 5) 9, expired := 0 } := by
  decide +kernel
theorem test_table_1_6_claim_queued :
    claimOutcome zoneTwelveGranted 6 .shared true =
      { outcome := .queued, position := some 2, set := none } := by
  decide +kernel
theorem test_table_1_6_cancel_admits :
    (cancelZone (claimZone zoneTwelveGranted 6 .shared 3 true).entry 4).entry.holders =
      insert (insert (single 5) 9) 6 := by
  decide +kernel
theorem test_table_1_6_generation_stands :
    (cancelZone (claimZone zoneTwelveGranted 6 .shared 3 true).entry 4).entry.generation = 8 := by
  decide +kernel

/-- The MEMBERs 1, 4, 7, 11 and the joiner 9 of Table 2-6. -/
def fourAndJoiner : Roster :=
  { Roster.cleared with
    roles := tabulate 16 (fun a =>
      if a = 9 then .joining else if a = 1 ∨ a = 4 ∨ a = 7 ∨ a = 11 then .member else .absent)
    progress := some 0 }

theorem test_table_2_6_required_set :
    fourAndJoiner.required (cycleMessageOf 4 (formMessage .claim 4 0 [1, 1, 0, 1])) = 0x0A92#16 := by
  decide +kernel
theorem test_own_message_is_clean :
    crcPasses claimMessage = true := by
  decide +kernel
theorem test_changed_bit_fails_the_check :
    crcPasses (put claimMessage 5 (claimMessage.get 5 ^^^ 1)) = false := by
  decide +kernel

/-- A queue of 29 records, the last numbered 128 (section 9.5), and the five records of commit 2001. -/
def almostFull : EventQueue :=
  { records := (List.range 29).map (fun i =>
      { sequence := natByte (100 + i), record := .expire 1 0 })
    nextSequence := 129, fetched := 0 }

theorem test_table_9_4_placement :
    (((List.replicate 5 (EventRecord.expire 2 1)).foldl EventQueue.place almostFull).records.drop 29
      = [{ sequence := 129, record := .expire 2 1 }, { sequence := 130, record := .expire 2 1 },
         { sequence := 131, record := .overflow 3 }]) := by
  decide +kernel
theorem test_table_9_4_next_number :
    ((List.replicate 5 (EventRecord.expire 2 1)).foldl EventQueue.place almostFull).nextSequence
      = 132 := by
  decide +kernel

/-! ## Hypotheses of the statements are met: pins and bytes -/

theorem test_reset_pin_met :
    State.reset.powerReset.port.rstLow = true ∧ Instr.start ≠ .hardwareReset
      ∧ Instr.start ≠ .rstRelease ∧ Instr.start ≠ .csFall ∧ Instr.start ≠ .csRise := by
  decide
theorem test_reset_pin_release_met :
    (State.reset.setPort { Port.cleared with rstLow := true, csLow := true }).port.rstLow = true
      ∧ (State.reset.setPort { Port.cleared with rstLow := true, csLow := true }).port.csLow = true
      ∧ exec .hardwareReset State.reset = .next State.reset.powerReset := by
  exact ⟨rfl, rfl, rfl⟩
theorem test_chip_select_met :
    State.reset.running ∧ State.reset.port.csLow = false ∧ State.reset.port.phase = .idle
      ∧ (inPhase State.reset .command none []).running
      ∧ (inPhase State.reset .command none []).port.csLow = true := by
  decide
theorem test_bytes_met :
    (inPhase State.reset .command none []).port.phase = .command
      ∧ HostCommand.ofCode 0x20 = some .claim ∧ HostCommand.claim.paramCount [] ≠ 0
      ∧ (inPhase State.reset .parameters (some (.known .claim)) [1]).port.parameters.length + 1
          < HostCommand.claim.paramCount [1, 2]
      ∧ (inPhase State.reset .reply (some (.known .stop)) []).port.phase = .reply
      ∧ HostCommand.ofCode 0xFF = none := by
  decide
theorem test_unknown_ready :
    State.reset.readyPort .unknown [] = some State.reset.openPort := rfl
theorem test_bytes_take_met :
    (Instr.recall 7).wellFormed = true
      ∧ transactionOf (.recall 7) = some (.known .recall, [] ++ [7])
      ∧ (inPhase State.reset .parameters (some (.known .recall)) []).running
      ∧ (inPhase State.reset .parameters (some (.known .recall)) []).port.parameters = []
      ∧ Instr.start.wellFormed = true ∧ transactionOf .start = some (.known .start, [])
      ∧ HostCommand.ofCode 0x11 = some .start := by
  decide
theorem test_command_out_of_turn_met :
    transactionOf .start = some (.known .start, [])
      ∧ (inPhase State.reset .drained (some (.known .stop)) []).readyPort (.known .start) []
          = none := by
  exact ⟨rfl, rfl⟩

/-! ## Host commands -/

theorem test_configure_met :
    State.reset.station = .offline ∧ (15 : Byte).toNat < 16 ∧ 2 ≤ (31 : Byte).toNat
      ∧ (31 : Byte).toNat ≤ 31 ∧ 8 ≤ (8 : Byte).toNat ∧ 1 ≤ (15 : Byte).toNat
      ∧ (15 : Byte).toNat ≤ 15 ∧ (seat .standby).station ≠ .offline := by
  decide
theorem test_configure_ready (a b c d e : Byte) (st : StationState) :
    (seat st).readyPort (.known .configure) [a, b, c, d, e] = some (seat st).openPort := rfl
theorem test_start_met :
    (seat .offline).running ∧ (seat .offline).station = .offline
      ∧ (seat .offline).controller.configured = true ∧ (seat .synced).station ≠ .offline := by
  decide
theorem test_stop_met :
    (seat .standby).station = .standby ∧ (seat .faulted).station = .faulted
      ∧ (seat .seeking).station ≠ .standby ∧ (seat .seeking).station ≠ .faulted := by
  decide

/-- A station that has passed the listening check. -/
def listened : State :=
  (seat .standby).setController { (seat .standby).controller with listen := 2 }

theorem test_join_met :
    listened.running ∧ listened.station = .standby ∧ listened.controller.listen = 2
      ∧ (seat .standby).controller.listen ≠ 2 := by
  decide
theorem test_join_seeks :
    (match exec .join listened with
     | .next t =>
       t.station == .seeking && t.port == listened.openPort.answer (.known .join) [] (okReply [])
         && t.events.records ==
           [{ sequence := 0, record := .state .standby .seeking .command 0 }]
     | _ => false) = true := by
  decide +kernel
theorem test_leave_met :
    (seat .seeking).station = .seeking ∧ (seat .seeking).selector.inFlight = none
      ∧ (flying (seat .seeking) foundFlight).selector.inFlight ≠ none
      ∧ (seat .doubt).station ≠ .seeking ∧ (seat .doubt).station ≠ .joining
      ∧ (seat .doubt).station ≠ .synced
      ∧ ((inCluster .synced).station = .synced ∨ (inCluster .synced).station = .joining) := by
  decide +kernel
theorem test_command_ready (st : StationState) (c : HostCommand) (params : List Byte) :
    (seat st).readyPort (.known c) params = some (seat st).openPort := rfl

/-! ## Line requests -/

theorem test_request_accepted_met :
    (Instr.claim 1 63 2 1 5).wellFormed = true
      ∧ lineRequest (.claim 1 63 2 1 5) = some (1, some (.claim 63 .shared 1 5))
      ∧ (inCluster .synced).station = .synced
      ∧ (inCluster .synced).sendQueue.entries.length < 8
      ∧ (inCluster .synced).sendQueue.waitCount < 16 := by
  decide
theorem test_request_accepted_no_duplicate (z : ZoneId) (m : LeaseMode) (w d : Byte) :
    ∀ e ∈ (inCluster .synced).sendQueue.entries, e.request ≠ .claim z m w d := by
  simp [inCluster, seat, State.setRoster, State.setController, State.reset, SendQueue.cleared]
theorem test_request_range_met :
    claimRequest 64 1 0 0 = none ∧ claimRequest 63 3 0 0 = none
      ∧ noteRequest 17 1 [0] = none ∧ noteRequest 16 0 [] = none ∧ noteRequest 16 13 [] = none
      ∧ (noteRequest 16 12 []).isSome = true := by
  decide

/-- A member whose send queue holds n RELEASE entries with tags 0 to n - 1. -/
def withEntries (n : Nat) : State :=
  (inCluster .synced).setSendQueue
    { entries := (List.range n).map (fun i => { releaseEntry with tag := natByte i })
      ownWaits := [] }

/-- A member that waits for sixteen zones. -/
def waitsAll : State :=
  (inCluster .synced).setSendQueue
    { entries := []
      ownWaits := (allZones.take 16).map (fun z => { zone := z, tag := 0, mode := .shared }) }

theorem test_request_refusals_met :
    (withEntries 8).sendQueue.entries.length = 8
      ∧ (withEntries 7).sendQueue.entries.length < 8
      ∧ (withEntries 7).sendQueue.tagInUse 6 = true ∧ (withEntries 7).sendQueue.tagInUse 7 = false
      ∧ (queued (inCluster .synced)
          { releaseEntry with request := .claim 5 .shared 0 0 }).sendQueue.duplicates
            (.claim 5 .exclusive 1 1) = true
      ∧ waitsAll.sendQueue.tagInUse 1 = false
      ∧ waitsAll.sendQueue.duplicates (.claim 5 .exclusive 1 1) = false
      ∧ (Request.claim 5 .exclusive 1 1).waitFlag = true ∧ 16 ≤ waitsAll.sendQueue.waitCount := by
  decide +kernel
theorem test_recall_met :
    (queued (inCluster .synced) releaseEntry).sendQueue.find 9 = some releaseEntry
      ∧ (sender 0).sendQueue.find 9 = some { releaseEntry with state := .inFlight }
      ∧ (∀ e ∈ (inCluster .synced).sendQueue.entries, e.tag ≠ 9) := by
  decide

/-! ## Policy, reading, events -/

theorem test_policy_met : (63 : Byte).toNat < 64 ∧ 64 ≤ (64 : Byte).toNat := by decide
theorem test_reads_met :
    (inCluster .synced).station = .synced ∧ (inCluster .synced).running
      ∧ (seat .leaving).station = .leaving ∧ (seat .doubt).station = .doubt
      ∧ (seat .standby).station ≠ .synced ∧ (seat .standby).station ≠ .leaving
      ∧ (seat .standby).station ≠ .doubt ∧ (seat .standby).running := by
  decide

/-- A queue whose only record is an OVERFLOW of three lost records, one of them told of. -/
def overflowed : EventQueue :=
  { records := [{ sequence := 131, record := .overflow 3 }], nextSequence := 132, fetched := 1 }

theorem test_fetch_and_ack_met :
    overflowed.records = [{ sequence := 131, record := .overflow 3 }]
      ∧ overflowed.fetched < (EventRecord.overflow 3).lostCount
      ∧ (EventRecord.expire 1 0).lostCount ≤ almostFull.fetched
      ∧ State.reset.events.records = [] := by
  decide
theorem test_ack_keeps_untold_losses :
    overflowed.removeHead { sequence := 131, record := .overflow 3 } [] =
      { records := [{ sequence := 132, record := .overflow 2 }], nextSequence := 133
        fetched := 0 } := by
  decide

/-! ## Cycle marks -/

theorem test_line_event_met :
    isLineEvent .cycleMark = true ∧ isLineEvent .lostMark = true ∧ isLineEvent .start = false
      ∧ isLineEvent .csFall = false := by
  decide
theorem test_line_event_answers : ∃ t, exec .cycleMark State.reset = .next t := ⟨_, rfl⟩
theorem test_cycle_mark_met : State.reset.running ∧ State.reset.claimUnjudged = false := by decide

/-- A member that holds zone 2 for one cycle more. -/
def leaseEnds : State :=
  (inCluster .synced).setZones (put ZoneTable.cleared 2 lastCycle)

theorem test_lease_expiry_met :
    leaseEnds.running ∧ leaseEnds.claimUnjudged = false ∧ leaseEnds.zoneActive 2 = true
      ∧ (leaseEnds.zones.get 2).state ≠ .free
      ∧ (leaseEnds.zones.get 2).remaining = some (.cycles 1)
      ∧ (leaseEnds.zones.get 2).queue = [] ∧ leaseEnds.own = some 3
      ∧ leaseEnds.reportsLeases = true ∧ mem (leaseEnds.zones.get 2).holders 3 = true := by
  decide +kernel
theorem test_expiry_cases_met :
    ZoneEntry.cleared.state = .free
      ∧ zoneTwelveGranted.remaining = some .unlimited
      ∧ zoneTwelve.state ≠ .free ∧ zoneTwelve.remaining = some (.cycles 40)
      ∧ lastCycle.state ≠ .free ∧ lastCycle.remaining = some (.cycles 1) := by
  decide
theorem test_early_mark_met :
    (atPoint (inCluster .synced) .mark 100).markIsEarly = true
      ∧ (atPoint (inCluster .synced) .mark 100).line.claimActive = false
      ∧ ((atPoint (inCluster .synced) .mark 100).line.point.rank < CyclePoint.claim.rank →
          260 < (100 : Fin 512).val → Level.dominant = Level.recessive)
      ∧ (atPoint (inCluster .synced) .mark 100).stallDue = false
      ∧ (receiver .synced).markIsEarly = true ∧ (receiver .synced).line.claimActive = true
      ∧ (receiver .synced).canDoubt = true := by
  decide +kernel
theorem test_lost_mark_met :
    (receiver .synced).running ∧ (receiver .synced).line.position ≠ .waiting
      ∧ (receiver .synced).line.claimActive = true ∧ (receiver .synced).canDoubt = true
      ∧ (receiver .doubt).canDoubt = false ∧ (receiver .doubt).line.position ≠ .waiting
      ∧ State.reset.line.position = .waiting := by
  decide +kernel

/-! ## The status point -/

/-- The slots of a cycle in which one address alone drives a slot. -/
def oneSlot (a : Addr) (mode : SlotMode) (counter : BitVec 12) : Slots :=
  put silentSlots a (slotWord { address := a, mode := mode, counter := counter })

theorem test_no_slot_is_clean (st : StationState) (slots : Slots) :
    (atPoint (inCluster st) .mark 255).slotClean slots := by
  intro d h
  simp [atPoint, inCluster, seat, State.setLine, State.setRoster, State.setController, State.reset,
    Line.cleared] at h
theorem test_status_point_met :
    (atPoint (inCluster .synced) .mark 255).running
      ∧ (atPoint (inCluster .synced) .mark 255).canMake .status = true
      ∧ (atPoint (inCluster .synced) .mark 255).ownsBits = true
      ∧ ((oneSlot 5 .synced 7).get 5).getLsbD 15 = false
      ∧ ((oneSlot 5 .synced 7).get 6).getLsbD 15 = true
      ∧ (atPoint (inCluster .synced) .mark 255).appliesRoster = true
      ∧ (atPoint (inCluster .synced) .mark 255).takesStance = true
      ∧ (atPoint (seat .seeking) .mark 255).appliesRoster = false
      ∧ (atPoint (seat .seeking) .mark 255).takesStance = false
      ∧ (atPoint (seat .seeking) .mark 255).ownsBits = true := by
  decide +kernel
theorem test_listening_met :
    ((seat .standby).setController { (seat .standby).controller with listen := 1 }).line.slotDrive
        = none
      ∧ (atPoint ((seat .standby).setController
          { (seat .standby).controller with listen := 1 }) .mark 255).canMake .status = true
      ∧ (silentSlots.get 3).getLsbD 15 = true ∧ (seat .standby).own = some 3
      ∧ (atPoint (seat .standby) .mark 255).canMake .status = true
      ∧ (seat .standby).controller.listen < 2
      ∧ ((oneSlot 3 .standby 0).get 3).getLsbD 15 = false := by
  decide +kernel
theorem test_formation_met :
    (atPoint ((seat .seeking).setController
        { (seat .seeking).controller with formation := 31 }) .mark 255).canMake .status = true
      ∧ clusterSlots silentSlots = 0 ∧ (seat .seeking).controller.config.formationWait = 31 + 1
      ∧ (seat .seeking).controller.config.formationWait ≤ 255 := by
  decide +kernel

/-- A member whose peer 5 has been silent for five cycles. -/
def silentPeer : State :=
  (atPoint (inCluster .synced) .mark 255).setMonitor
    { Monitor.cleared with
      peers := put Monitor.cleared.peers 5 { PeerRecord.cleared with silence := 5 } }

/-- A member in its first divergent cycle. -/
def diverging : State :=
  (atPoint (inCluster .synced) .mark 255).setMonitor { Monitor.cleared with divergence := 1 }

theorem test_candidate_met : silentPeer.running ∧ silentPeer.hasCandidate silentSlots = true := by
  decide +kernel
theorem test_divergence_met :
    diverging.running ∧ diverging.diverges (oneSlot 5 .synced 8) = true
      ∧ diverging.station = .synced := by
  decide +kernel

theorem test_seeking_duty_met :
    (atPoint (seat .seeking) .mark 255).canMake .status = true
      ∧ (seat .seeking).controller.formation + 1 < (seat .seeking).controller.config.formationWait
      ∧ showsCluster ((oneSlot 5 .synced 7).get 5)
      ∧ (∀ a : Addr, ¬ showsCluster (silentSlots.get a)) := by
  simp only [showsCluster]
  decide +kernel
theorem test_divergence_counts_met :
    ((inCluster .synced).syncedPeers silentSlots).length = 0
      ∧ ((inCluster .synced).syncedPeers (oneSlot 5 .synced 7)).length = 1
      ∧ ((inCluster .synced).differingPeers (oneSlot 5 .synced 7)).length = 0
      ∧ ((inCluster .synced).differingPeers (oneSlot 5 .synced 8)).length = 1
      ∧ (atPoint (inCluster .synced) .mark 255).monitor.divergence = 0
      ∧ diverging.monitor.divergence = 1 ∧ diverging.canMake .status = true := by
  decide +kernel
theorem test_no_candidate_no_duty :
    (match exec (.statusPoint (oneSlot 5 .synced 7))
        (silentPeer.setSelector { Selector.cleared with urgent := some (.evict 5 .silent) }) with
     | .next t => t.selector.urgent == none && t.monitor.divergence == 0
     | _ => false) = true := by
  decide +kernel

/-! ## Contention -/

/-- A member with one entry, before the selection point. -/
def chooser : State :=
  atPoint (queued (inCluster .synced) releaseEntry) .status 255

theorem test_selection_met :
    chooser.running ∧ chooser.canMake .selection = true ∧ chooser.own = some 3
      ∧ chooser.selector.urgent = none
      ∧ eligibleEntry [] chooser.sendQueue.entries = some releaseEntry
      ∧ chooser.sendQueue.find 9 = some releaseEntry
      ∧ (atPoint (inCluster .leaving) .status 255).station = .leaving
      ∧ (atPoint (inCluster .doubt) .status 255).station = .doubt
      ∧ (seat .standby).station.chooses = false := by
  decide

/-- A station in a local state before its selection point. -/
def beforeSelection (s : State) : State :=
  atPoint s .status 255

/-- The roster of stations 3 and 5 with 4 the joiner, its progress given. -/
def admitting (progress : Nat) : Roster :=
  { duo.applyJoinReq 4 with progress := some progress }

/-- A CLAIM waiting in the send queue. -/
def claimEntry : SendEntry :=
  { tag := 1, request := .claim 5 .shared 0 1, attempts := 0, state := .waiting }

theorem test_choice_met :
    ((inCluster .synced).setSelector
        { Selector.cleared with urgent := some (.evict 5 .silent) }).selector.urgent.isSome = true
      ∧ eligibleEntry [] [claimEntry] = none
      ∧ ((inCluster .synced).setSelector
          { Selector.cleared with sync := some (.snap 0) }).selector.snapHold = 0
      ∧ claimEntry.request.cls = .normal
      ∧ ((inCluster .synced).setSelector { Selector.cleared with served := true }).selector.served
          = true := by
  decide
theorem test_choice_order_met :
    eligibleEntry [] [claimEntry, releaseEntry] = some releaseEntry
      ∧ eligibleEntry [] [{ claimEntry with request := .claim 2 .shared 0 1 }, releaseEntry] = none
      ∧ (inCluster .synced).selector.urgent = none
      ∧ (inCluster .synced).sendQueue.entries = [] ∧ (inCluster .synced).selector.served = false
      ∧ ((seat .seeking).setSelector { Selector.cleared with sync := some .found }).selector.seekHold
          = 0
      ∧ ((seat .seeking).setSelector { Selector.cleared with seekHold := 1 }).selector.seekHold ≠ 0
      ∧ ((seat .doubt).setSelector
          { Selector.cleared with urgent := some (.leave .doubt) }).selector.urgent
            = some (.leave .doubt) := by
  decide
theorem test_selection_duties_met :
    (beforeSelection (seat .seeking)).canMake .selection = true
      ∧ (seat .seeking).selector.urgent = none ∧ (seat .seeking).selector.seekHold = 0
      ∧ ((seat .seeking).setSelector { Selector.cleared with sync := some .joinReq }).selector.sync
          = some .joinReq
      ∧ ((inCluster .synced).setSelector
          { Selector.cleared with urgent := some (.evict 5 .silent) }).station = .synced
      ∧ (beforeSelection (inCluster .synced)).canMake .selection = true := by
  decide
theorem test_selection_block_met :
    (admitting 0).donor = some 3 ∧ (admitting 0).joiner = some 4 ∧ (admitting 0).progress = some 0
      ∧ (admitting 64).donor = some 3 ∧ (admitting 64).progress = some ((63 : ZoneId).val + 1)
      ∧ (inCluster .synced).own = some 3 ∧ (inCluster .synced).selector.snapHold = 0
      ∧ (queued (inCluster .synced) claimEntry).sendQueue.entries = claimEntry :: []
      ∧ duo.joiner = none := by
  decide +kernel

/-- A member whose RELEASE contends. -/
def contender (st : StationState) : State :=
  flying (queued (inCluster st) { releaseEntry with state := .inFlight }) (releaseFlight .contending)

theorem test_claim_bits_met :
    (contender .synced).running
      ∧ (contender .synced).contending = some (releaseFlight .contending)
      ∧ (contender .synced).own = some 3 ∧ (contender .synced).station ≠ .leaving
      ∧ claimBitAt .urgent 3 6 = some true ∧ claimBitAt .urgent 3 0 = some false
      ∧ (contender .leaving).contending = some (releaseFlight .contending)
      ∧ (contender .leaving).station = .leaving
      ∧ (contender .leaving).sendQueue.find 9
          = some { releaseEntry with state := .inFlight } := by
  decide +kernel
theorem test_leave_duty_claim_met :
    (flying (inCluster .leaving)
        { releaseFlight .contending with source := .urgent (.leave .voluntary) }).contending
        = some { releaseFlight .contending with source := .urgent (.leave .voluntary) }
      ∧ (∀ tag, Source.urgent (.leave .voluntary) ≠ .entry tag) := by
  constructor
  · rfl
  · intro tag h
    cases h
theorem test_claim_segment_met :
    (atPoint (contender .synced) .selection 260).canMake .claim = true
      ∧ (atPoint (contender .synced) .selection 260).contending = some (releaseFlight .contending)
      ∧ (atPoint (inCluster .synced) .selection 260).contending = none := by
  decide +kernel

/-! ## The message segment and owned bits -/

/-- A contender whose claim faults at a bit, the end of the claim segment then being read by a bit time. -/
def faulted (bit : Fin 7) : State :=
  (((atPoint (contender .synced) .selection 260).setLine
    { (atPoint (contender .synced) .selection 260).line with claimActive := true }).faultAt bit).pointAfter 266

theorem test_claim_fault_after_the_start_bit_is_not_idle :
    (faulted 4).verdict.claim = some (.winner 0 7) ∧ (faulted 4).selector.inFlight = none := by
  decide +kernel
theorem test_claim_fault_at_the_start_bit_reads_idle :
    (faulted 0).verdict.claim = some .idle ∧ (faulted 0).line.claimActive = true := by
  decide +kernel

/-- A station in a cycle of a local state, the claim segment read. -/
def listening (st : StationState) : State :=
  claimed (atPoint (inCluster st) .claim 266) (.winner 2 5)

/-- A member that has read the claim segment of a class and an address. -/
def hearing (st : StationState) (cls : BitVec 2) (addr : Addr) : State :=
  claimed (atPoint (inCluster st) .claim 266) (.winner cls addr)

theorem test_message_mismatch_met :
    (flying (listening .synced) (releaseFlight .won)).cleanSender = some (releaseFlight .won)
      ∧ (flying (listening .synced) (releaseFlight .won)).canMake .message = true
      ∧ (flying (listening .synced) (releaseFlight .won)).running := by
  decide +kernel
theorem test_misread_message_is_not_intact :
    (let s := (flying (hearing .synced 0 3) (releaseFlight .won)).mismatchAt 6
     s.intactTest s.quietMessage = false
       ∧ (flying (hearing .synced 0 3) (releaseFlight .won)).intactTest
           (flying (hearing .synced 0 3) (releaseFlight .won)).quietMessage = true) := by
  decide +kernel
theorem test_message_segment_met :
    (listening .synced).running ∧ (listening .synced).canMake .message = true
      ∧ (listening .synced).line.claimActive = true
      ∧ (listening .synced).verdict.claim = some (.winner 2 5)
      ∧ (listening .joining).station = .joining ∧ (listening .doubt).station = .doubt := by
  decide
theorem test_acquiring_leaver_met :
    ((listening .leaving).setRoster Roster.cleared).station = .leaving
      ∧ ((listening .leaving).setRoster Roster.cleared).ownRole ≠ .member := by
  decide
theorem test_intact_claim_is_accepted :
    (listening .synced).intactTest claimMessage = true
      ∧ (listening .synced).stanceOn claimMessage true = .accept := by
  decide +kernel

/-- A member with no room for a NOTE. -/
def crowded : State :=
  (listening .synced).setEvents almostFull

/-- A NOTE of station 5 to all members. -/
def noteMessage : MessageBytes :=
  formMessage .note 5 7 [16, 1, 9]

theorem test_objection_met :
    (listening .synced).intactTest (formMessage .claim 5 7 [64, 1, 0, 1]) = true
      ∧ (listening .synced).objectionReason 5 (.claim 64 1 0 1)
      ∧ ¬ (listening .synced).objectionReason 5 (.claim 2 1 0 1)
      ∧ (listening .synced).intactTest (put claimMessage 5 0xFF) = false
      ∧ (listening .leaving).station = .leaving ∧ (listening .leaving).ownRole = .member := by
  simp only [State.objectionReason]
  decide +kernel
theorem test_basis_met :
    (listening .synced).intactTest (formMessage .claim 5 6 [2, 1, 0, 1]) = true
      ∧ kindOf (formMessage .claim 5 6 [2, 1, 0, 1]) = some .claim
      ∧ basisOf (formMessage .claim 5 6 [2, 1, 0, 1])
          ≠ (listening .synced).roster.counter.extractLsb' 0 8
      ∧ basisOf claimMessage = (listening .synced).roster.counter.extractLsb' 0 8
      ∧ (hearing .synced 1 6).intactTest (formMessage .joinReq 6 0 []) = true
      ∧ (hearing .synced 0 5).intactTest (formMessage .leave 5 0 [1]) = true
      ∧ ¬ (hearing .synced 1 6).objectionReason 6 .joinReq
      ∧ ¬ (hearing .synced 0 5).objectionReason 5 (.leave 1) := by
  simp only [State.objectionReason]
  decide +kernel
theorem test_withheld_note_met :
    crowded.intactTest noteMessage = true ∧ kindOf noteMessage = some .note
      ∧ crowded.noteWithheld (bodyOf .note (payloadOf noteMessage))
      ∧ ¬ crowded.objectionReason 5 (bodyOf .note (payloadOf noteMessage))
      ∧ ¬ (listening .synced).noteWithheld (bodyOf .note (payloadOf noteMessage)) := by
  rw [show bodyOf .note (payloadOf noteMessage) = .note 16 1 [9] by decide +kernel]
  simp only [State.objectionReason, State.noteWithheld]
  decide +kernel

/-- A member that drives its slot, after two cycles with a mismatch. -/
def driving (run : Nat) : State :=
  let s := atPoint (inCluster .synced) .mark 40
  s.setLine { s.line with 
    slotDrive := some { address := 3, mode := .synced, counter := 7 }, runCount := run }

theorem test_owned_bits_met :
    (driving 1).running ∧ (driving 1).ownsBit 48 = true ∧ (driving 1).ownsBit 63 = true
      ∧ (driving 1).line.mismatchSeen = false ∧ (driving 1).line.runCount < 2
      ∧ (driving 2).ownsBit 48 = true ∧ (driving 2).line.runCount = 2 := by
  decide +kernel
theorem test_misread_slot_met :
    (driving 1).canMake .status = true ∧ (driving 1).ownsBits = true
      ∧ (driving 1).line.slotDrive = some { address := 3, mode := .synced, counter := 7 }
      ∧ slotOf silentSlots 3 ≠ slotWord { address := 3, mode := .synced, counter := 7 }
      ∧ slotOf (oneSlot 3 .synced 7) 3 = slotWord { address := 3, mode := .synced, counter := 7 }
      ∧ (driving 2).canMake .status = true ∧ (driving 2).station ≠ .standby := by
  decide +kernel

/-! ## The verdict point -/

/-- A station at the verdict point of an idle cycle. -/
def idleEnd (st : StationState) : State :=
  let s := atPoint (seat st) .message 431
  s.setVerdict { s.verdict with claim := some .idle }

theorem test_idle_verdict_met :
    (idleEnd .synced).running ∧ (idleEnd .synced).canMake .verdict = true
      ∧ (idleEnd .synced).verdict.claim = some .idle
      ∧ (idleEnd .synced).verdict.stance = .notTaken ∧ (idleEnd .synced).stallDue = false
      ∧ (idleEnd .joining).acquiring = true := by
  decide
theorem test_commit_met :
    (receiver .synced).running ∧ (receiver .synced).canMake .verdict = true
      ∧ (receiver .synced).survives (accepts 0x28) (accepts 0x28) = true
      ∧ (receiver .synced).selector.inFlight = none
      ∧ (receiver .synced).verdict.claim = some (.winner 2 5)
      ∧ kindOf claimMessage = some .claim
      ∧ bodyOf .claim (payloadOf claimMessage) = .claim 2 1 0 1
      ∧ subset ((receiver .synced).roster.required
          { kind := some .claim, sender := 5, body := some (.claim 2 1 0 1) }) 0x28 = true := by
  decide +kernel
theorem test_commit_grants_the_zone :
    (match exec (.verdictPoint (accepts 0x28) (accepts 0x28)) (receiver .synced) with
     | .next t =>
       t.zones.get 2 ==
         { state := .exclusive, holders := single 5, remaining := some (.cycles 64)
           generation := 1, queue := [] } && t.roster.counter == 8
     | _ => false) = true := by
  decide +kernel

/-- A station that has read an intact message of a class and an address, before the verdict point. -/
def heard (s : State) (cls : BitVec 2) (addr : Addr) (m : MessageBytes) : State :=
  let t := claimed (atPoint s .message 431) (.winner cls addr)
  t.setLine { t.line with receive := some m, intact := some true }

/-- A member whose request, the only one of its queue, has won and is read intact. -/
def requested (s : State) (r : Request) (k : Kind) (cls : MessageClass) (payload : List Byte) : State :=
  flying
    (queued (heard s cls.code 3 (formMessage k 3 7 payload))
      { tag := 9, request := r, attempts := 0, state := .inFlight })
    { source := .entry 9, kind := k, cls := cls, message := formMessage k 3 7 payload, claim := .won
      mismatchFrom := none }

/-- A member whose zone 2 is an entry. -/
def withZone (e : ZoneEntry) : State :=
  (inCluster .synced).setZones (put ZoneTable.cleared 2 e)

/-- What a station reads of a commit, check by check: the Bool conditions of `State.readsCommit`. -/
def reads (s : State) (a b : VerdictCopy) (cls : BitVec 2) (sender : Addr) (k : Kind) (body : Body)
    (m : MessageBytes) : Bool :=
  !s.port.rstLow && s.canMake .verdict && s.survives a b
    && s.verdict.claim == some (.winner cls sender) && s.line.receive == some m
    && kindOf m == some k && bodyOf k (payloadOf m) == body && s.line.intact == some true
    && s.commits a && s.commits b

theorem readsCommit_of_reads {s : State} {a b : VerdictCopy} {cls : BitVec 2} {sender : Addr} {k : Kind}
    {body : Body} {m : MessageBytes} (h : reads s a b cls sender k body m = true) :
    s.readsCommit a b sender k body := by
  simp only [reads, Bool.and_eq_true, Bool.not_eq_true', beq_iff_eq] at h
  obtain ⟨⟨⟨⟨⟨⟨⟨⟨⟨h1, h2⟩, h3⟩, h4⟩, h5⟩, h6⟩, h7⟩, h8⟩, h9⟩, h10⟩ := h
  exact ⟨h1, h2, h3, ⟨cls, h4⟩, ⟨m, h5, h6, h7⟩, h8, h9, h10⟩

theorem test_reads_commit_met :
    (receiver .synced).readsCommit (accepts 0x28) (accepts 0x28) 5 .claim (.claim 2 1 0 1) :=
  readsCommit_of_reads (cls := 2) (m := claimMessage) (by decide +kernel)

theorem test_leaving_member_commit_met :
    (receiver .leaving).readsCommit (accepts 0x28) (accepts 0x28) 5 .claim (.claim 2 1 0 1)
      ∧ (receiver .leaving).appliesAsMember ∧ (receiver .leaving).selector.inFlight = none :=
  ⟨readsCommit_of_reads (cls := 2) (m := claimMessage) (by decide +kernel),
    .inr (by decide +kernel), by decide⟩
theorem test_other_found_met :
    (heard (inCluster .synced) 1 5 (formMessage .found 5 0 [])).readsCommit
        (accepts 0x20) (accepts 0x20) 5 .found .found
      ∧ (heard (inCluster .synced) 1 5 (formMessage .found 5 0 [])).stallDue = false :=
  ⟨readsCommit_of_reads (cls := 1) (m := formMessage .found 5 0 []) (by decide +kernel),
    by decide +kernel⟩

/-- A member whose RELEASE of zone 2, which it holds, has won and is read intact. -/
def releasing : State :=
  requested (withZone lastCycle) (.release 2) .release .urgent [2]

theorem test_own_release_met :
    releasing.readsCommit (accepts 0x28) (accepts 0x28) 3 .release (.release 2)
      ∧ releasing.sendQueue.find 9 =
          some { releaseEntry with state := .inFlight }
      ∧ (Body.release 2).zone? = some 2
      ∧ zoneOutcome (releasing.zones.get 2) 3 (.release 2) = some (plainOutcome .released) :=
  ⟨readsCommit_of_reads (cls := 0) (m := formMessage .release 3 7 [2]) (by decide +kernel),
    by decide +kernel, by decide, by decide +kernel⟩

/-- A zone held EXCLUSIVE by station 5, with station 3 waiting or not. -/
def heldByFive (queue : List Waiter) : ZoneEntry :=
  { state := .exclusive, holders := single 5, remaining := some .unlimited, generation := 4
    queue := queue }

theorem test_own_claim_queued_met :
    (requested (withZone (heldByFive [])) (.claim 2 .shared 1 1) .claim .normal
        [2, 1, 1, 1]).readsCommit (accepts 0x28) (accepts 0x28) 3 .claim (.claim 2 1 1 1)
      ∧ zoneOutcome (heldByFive []) 3 (.claim 2 1 1 1) =
          some { outcome := .queued, position := some 1, set := none } :=
  ⟨readsCommit_of_reads (cls := 2) (m := formMessage .claim 3 7 [2, 1, 1, 1]) (by decide +kernel),
    by decide +kernel⟩
theorem test_own_cancel_met :
    (requested (withZone (heldByFive [{ station := 3, mode := .shared, duration := 1 }])) (.cancel 2)
        .cancel .urgent [2]).readsCommit (accepts 0x28) (accepts 0x28) 3 .cancel (.cancel 2)
      ∧ zoneOutcome (heldByFive [{ station := 3, mode := .shared, duration := 1 }]) 3 (.cancel 2) =
          some (plainOutcome .cancelled) :=
  ⟨readsCommit_of_reads (cls := 0) (m := formMessage .cancel 3 7 [2]) (by decide +kernel),
    by decide +kernel⟩
theorem test_own_note_met :
    (requested (inCluster .synced) (.note 16 [9]) .note .normal [16, 1, 9]).readsCommit
      (accepts 0x28) (accepts 0x28) 3 .note (.note 16 1 [9]) :=
  readsCommit_of_reads (cls := 2) (m := formMessage .note 3 7 [16, 1, 9]) (by decide +kernel)

/-- A member at address 3 whose EVICT of station 5 has won, and the same with a SNAP of block 1. -/
def evicting : State :=
  let m := formMessage .evict 3 7 [5, 1]
  flying (heard (inCluster .synced) 0 3 m)
    { source := .urgent (.evict 5 .silent), kind := .evict, cls := .urgent, message := m, claim := .won
      mismatchFrom := none }
def donating : State :=
  let m := formMessage .snap 3 7 [1]
  flying (heard (inCluster .synced) 1 3 m)
    { source := .sync (.snap 1), kind := .snap, cls := .sync, message := m, claim := .won
      mismatchFrom := none }

theorem test_own_evict_duty_met :
    evicting.readsCommit (accepts 0x08) (accepts 0x08) 3 .evict
        (.evict 5 (natByte EvictReason.silent.code))
      ∧ evicting.station = .synced ∧ evicting.own = some 3 :=
  ⟨readsCommit_of_reads (cls := 0) (m := formMessage .evict 3 7 [5, 1]) (by decide +kernel),
    by decide, by decide⟩
theorem test_own_snap_duty_met :
    donating.readsCommit (accepts 0x28) (accepts 0x28) 3 .snap
        (.snap (natByte 1) (List.replicate 15 0))
      ∧ donating.station = .synced ∧ donating.own = some 3 :=
  ⟨readsCommit_of_reads (cls := 1) (m := formMessage .snap 3 7 [1]) (by decide +kernel),
    by decide, by decide⟩
theorem test_own_duties_committed :
    (match exec (.verdictPoint (accepts 0x08) (accepts 0x08)) evicting with
     | .next t => t.roster.role 5 == .absent && t.selector.urgent == none && t.station == .synced
     | _ => false) = true := by
  decide +kernel
theorem test_own_release_is_reported :
    (match exec (.verdictPoint (accepts 0x28) (accepts 0x28)) releasing with
     | .next t =>
       t.events.records ==
           [{ sequence := 0
              record := .result
                { tag := 9, kind := .release, outcome := .released, zone := some 2
                  position := none, set := none, commit := some 8 } }]
         && t.sendQueue.entries == []
     | _ => false) = true := by
  decide +kernel

/-- A SEEKING station whose FOUND has won, before the verdict point. -/
def forming : State :=
  let s := flying (claimed (atPoint (seat .seeking) .message 431) (.winner 1 3)) foundFlight
  s.setLine { s.line with
    receive := some (formMessage .found 3 0 []), intact := some true }

theorem test_found_met :
    forming.running ∧ forming.canMake .verdict = true ∧ forming.station = .seeking
      ∧ forming.own = some 3 ∧ forming.verdict.stance = .notTaken
      ∧ forming.verdict.claim = some (.winner 1 3) ∧ forming.cleanSender = some foundFlight
      ∧ forming.cycleMessage.kind = some .found ∧ forming.cycleMessage.body = some .found
      ∧ forming.monitor.slotDerived = 0 ∧ (accepts 0).object = 0 := by
  decide +kernel

/-- A duty in flight that has won. -/
def duty (source : Source) (k : Kind) (cls : MessageClass) (m : MessageBytes) : InFlight :=
  { source := source, kind := k, cls := cls, message := m, claim := .won, mismatchFrom := none }

/-- A SEEKING station whose JOIN_REQ has won, station 5 being the cluster it sees. -/
def asking : State :=
  let m := formMessage .joinReq 3 0 []
  let s := flying (heard (seat .seeking) 1 3 m) (duty (.sync .joinReq) .joinReq .sync m)
  s.setMonitor { s.monitor with slotDerived := 0x20 }

/-- A LEAVING member whose LEAVE has won. -/
def departing : State :=
  let m := formMessage .leave 3 7 [1]
  flying (heard (inCluster .leaving) 0 3 m) (duty (.urgent (.leave .voluntary)) .leave .urgent m)

theorem test_join_request_met :
    asking.readsCommit (accepts 0x20) (accepts 0x20) 3 .joinReq .joinReq
      ∧ asking.station = .seeking ∧ asking.verdict.stance = .notTaken :=
  ⟨readsCommit_of_reads (cls := 1) (m := formMessage .joinReq 3 0 []) (by decide +kernel),
    by decide, by decide⟩
theorem test_own_leave_met :
    departing.readsCommit (accepts 0x20) (accepts 0x20) 3 .leave (.leave 1)
      ∧ departing.station = .leaving :=
  ⟨readsCommit_of_reads (cls := 0) (m := formMessage .leave 3 7 [1]) (by decide +kernel),
    by decide⟩
/-- A station in DOUBT whose LEAVE has won. -/
def doubting : State :=
  let m := formMessage .leave 3 7 [2]
  flying (heard (inCluster .doubt) 0 3 m) (duty (.urgent (.leave .doubt)) .leave .urgent m)

theorem test_own_leave_in_doubt_met :
    doubting.readsCommit (accepts 0x20) (accepts 0x20) 3 .leave (.leave 2)
      ∧ doubting.station = .doubt ∧ doubting.selector.inFlight.isSome = true :=
  ⟨readsCommit_of_reads (cls := 0) (m := formMessage .leave 3 7 [2]) (by decide +kernel),
    by decide, by decide⟩
theorem test_rejoin_goes_on_to_seeking :
    (match exec (.verdictPoint (accepts 0x20) (accepts 0x20))
        (departing.setController
          { departing.controller with config := { departing.controller.config with rejoin := true } }) with
     | .next t => t.station == .seeking && t.events.records.length == 2
     | _ => false) = true := by
  decide +kernel

/-- The copies of an attempt that station 5 objects to. -/
def objected : VerdictCopy :=
  { accept := 0, object := 0x20 }

/-- What a station before its verdict point meets of the hypotheses of an objected attempt. -/
def isObjected (s : State) : Bool :=
  !s.port.rstLow && s.canMake .verdict && s.survives objected objected && s.claimHeldWinner && s.won
    && !s.commits objected

theorem test_objected_duties_met :
    isObjected forming = true ∧ isObjected asking = true
      ∧ isObjected (flying (heard (inCluster .synced) 1 3 claimMessage)
          (duty (.sync (.snap 0)) .snap .sync claimMessage)) = true
      ∧ isObjected (flying (heard (inCluster .synced) 0 3 claimMessage)
          (duty (.urgent (.evict 5 .silent)) .evict .urgent claimMessage)) = true
      ∧ objected.object ||| objected.object ≠ 0 := by
  decide +kernel
theorem test_own_eviction_in_doubt_met :
    (heard (inCluster .doubt) 0 5 (formMessage .evict 5 7 [3, 2])).readsCommit
      (accepts 0x20) (accepts 0x20) 5 .evict (.evict 3 (natByte EvictReason.mismatch.code)) :=
  readsCommit_of_reads (cls := 0) (m := formMessage .evict 5 7 [3, 2]) (by decide +kernel)
theorem test_own_leave_objected_met :
    departing.running ∧ departing.canMake .verdict = true
      ∧ departing.survives { accept := 0, object := 0x20 } { accept := 0, object := 0x20 } = true
      ∧ departing.verdict.claim = some (.winner 0 3)
      ∧ departing.commits { accept := 0, object := 0x20 } = false
      ∧ (0x20 : StationSet) ||| 0x20 ≠ 0 := by
  decide +kernel
theorem test_own_eviction_met :
    (heard (inCluster .synced) 0 5 (formMessage .evict 5 7 [3, 1])).readsCommit
      (accepts 0x20) (accepts 0x20) 5 .evict (.evict 3 (natByte EvictReason.silent.code)) :=
  readsCommit_of_reads (cls := 0) (m := formMessage .evict 5 7 [3, 1]) (by decide +kernel)

/-- A joiner at address 3 that has loaded the roster block. -/
def loader : State :=
  { (seat .joining) with
    roster :=
      { roles := put (put Roster.cleared.roles 3 .joining) 5 .member, joinQueue := []
        progress := some 1, counter := 7 }
    snapshot := { Snapshot.cleared with loaded := 1 } }

theorem test_next_block_met :
    loader.station = .joining ∧ loader.own = some 3 ∧ loader.roster.joiner = some 3
      ∧ loader.roster.role 3 = .joining ∧ loader.snapshot.loaded = (0 : ZoneId).val + 1
      ∧ loader.roster.progress = some ((0 : ZoneId).val + 1) ∧ (0 : ZoneId).val < 63
      ∧ zoneBlockValid (zoneBlock zoneTwelve) = true := by
  decide +kernel
/-- The roster of a transfer from station 5 to station 3, its progress given. -/
def transfer (progress : Nat) : Roster :=
  { roles := put (put Roster.cleared.roles 3 .joining) 5 .member, joinQueue := []
    progress := some progress, counter := 7 }

/-- A joiner at address 3 with a roster and a loaded-block count that has read a SNAP of station 5. -/
def joinerAt (r : Roster) (loaded : Nat) (index : Byte) (content : List Byte) : State :=
  let s := heard
    (((seat .joining).setRoster r).setSnapshot { Snapshot.cleared with loaded := loaded })
    1 5 (formMessage .snap 5 7 (index :: content))
  s.setMonitor { s.monitor with slotDerived := 0x20 }

/-- What `joinerAt` reads of the commit, at an index and a content of 15 bytes. -/
def joinerReads (r : Roster) (loaded : Nat) (index : Byte) (content : List Byte) : Bool :=
  reads (joinerAt r loaded index content) (accepts 0x28) (accepts 0x28) 1 5 .snap (.snap index content)
    (formMessage .snap 5 7 (index :: content))

/-- The roster block of the transfer, and one that does not name station 3. -/
def firstContent : List Byte := rosterBlock (transfer 0)
def strangerContent : List Byte := rosterBlock duo

theorem test_first_block_met :
    joinerReads Roster.cleared 0 0 firstContent = true
      ∧ blockRole firstContent 3 = .joining ∧ rosterBlockValid firstContent = true
      ∧ joinerReads Roster.cleared 0 5 (zoneBlock zoneTwelve) = true
      ∧ blockRole strangerContent 3 = .member
      ∧ joinerReads Roster.cleared 0 0 strangerContent = true := by
  decide +kernel
theorem test_later_blocks_met :
    joinerReads (transfer 1) 1 1 (zoneBlock zoneTwelve) = true
      ∧ joinerReads (transfer 63) 63 63 (zoneBlock zoneTwelve) = true
      ∧ joinerReads (transfer 64) 64 64 (zoneBlock zoneTwelve) = true
      ∧ (transfer 1).joiner = some 3 ∧ (transfer 64).joinQueue = [] := by
  decide +kernel
theorem test_repeats_and_gap_met :
    joinerReads (transfer 1) 1 0 firstContent = true
      ∧ joinerReads (transfer 2) 2 1 (zoneBlock zoneTwelve) = true
      ∧ joinerReads (transfer 64) 64 63 (zoneBlock zoneTwelve) = true
      ∧ joinerReads (transfer 2) 2 4 (zoneBlock zoneTwelve) = true
      ∧ joinerReads (transfer 64) 64 0 firstContent = true
      ∧ (transfer 2).role 3 = .joining := by
  decide +kernel
theorem test_first_block_commit_met :
    (joinerAt Roster.cleared 0 0 firstContent).readsCommit (accepts 0x28) (accepts 0x28) 5 .snap
      (.snap 0 firstContent) :=
  readsCommit_of_reads (cls := 1) (m := formMessage .snap 5 7 (0 :: firstContent)) (by decide +kernel)

/-- A joiner at address 3 with a loaded-block count that has read a message of station 5 in a class. -/
def joinerHears (loaded : Nat) (cls : BitVec 2) (m : MessageBytes) : State :=
  let s := heard
    (((seat .joining).setRoster (transfer 1)).setSnapshot { Snapshot.cleared with loaded := loaded })
    cls 5 m
  s.setMonitor { s.monitor with slotDerived := 0x20 }

theorem test_joiner_commit_met :
    (joinerHears 2 2 claimMessage).readsCommit (accepts 0x28) (accepts 0x28) 5 .claim (.claim 2 1 0 1)
      ∧ (joinerHears 0 2 claimMessage).readsCommit (accepts 0x28) (accepts 0x28) 5 .claim
          (.claim 2 1 0 1)
      ∧ (joinerHears 2 2 claimMessage).acquiring = true
      ∧ (joinerHears 2 2 claimMessage).sendQueue.ownWaits = []
      ∧ (joinerHears 2 2 claimMessage).stallDue = false
      ∧ (rosterEffect { transfer 1 with counter := 8 } 5 (.claim 2 1 0 1)).role 5 = .member :=
  ⟨readsCommit_of_reads (cls := 2) (m := claimMessage) (by decide +kernel),
    readsCommit_of_reads (cls := 2) (m := claimMessage) (by decide +kernel),
    by decide +kernel, by decide +kernel, by decide +kernel, by decide +kernel⟩
theorem test_joiner_dissolution_met :
    (joinerHears 1 0 (formMessage .leave 5 7 [1])).readsCommit (accepts 0x08) (accepts 0x08) 5 .leave
        (.leave 1)
      ∧ (∀ x, (rosterEffect { transfer 1 with counter := 8 } 5 (.leave 1)).role x ≠ .member) :=
  ⟨readsCommit_of_reads (cls := 0) (m := formMessage .leave 5 7 [1]) (by decide +kernel),
    by decide +kernel⟩
theorem test_gap_ends_the_stall_count :
    (match exec (.verdictPoint (accepts 0x28) (accepts 0x28))
        ((joinerAt (transfer 2) 2 4 (zoneBlock zoneTwelve)).setSnapshot
          { Snapshot.cleared with loaded := 2, stall := 9 }) with
     | .next t => t.station == .doubt && t.snapshot.stall == 0
     | _ => false) = true := by
  decide +kernel
theorem test_disagreement_counts_a_stall_cycle :
    (match exec (.verdictPoint (accepts 0x28) (accepts 0x08)) (joinerHears 2 2 claimMessage) with
     | .next t => t.station == .doubt && t.snapshot.stall == 1
     | _ => false) = true := by
  decide +kernel
theorem test_last_zone_met :
    (transfer 63).progress = some ((62 : ZoneId).val + 1) ∧ (62 : ZoneId).val < 63 := by
  decide

/-- A member whose cycle committed but that read its message not intact. -/
def damaged : State :=
  (receiver .synced).setLine { (receiver .synced).line with intact := some false }

theorem test_copies_and_damage_met :
    (receiver .synced).copiesDiffer (accepts 0x28) (accepts 0x08)
      ∧ (receiver .synced).copiesDiffer (accepts 0x08) (accepts 0x28)
      ∧ (receiver .synced).survives (accepts 0x08) (accepts 0x28) = true
      ∧ damaged.running ∧ damaged.canMake .verdict = true
      ∧ damaged.survives (accepts 0x28) (accepts 0x28) = true
      ∧ damaged.commits (accepts 0x28) = true ∧ damaged.canDoubt = true := by
  simp only [State.copiesDiffer]
  decide +kernel
theorem test_decision_met :
    (receiver .synced).decidesOn 5 claimMessage ∧ (receiver .synced).decidesByRoster
      ∧ damaged.decidesOn 5 claimMessage
      ∧ asking.decidesOn 3 (formMessage .joinReq 3 0 []) ∧ ¬ asking.decidesByRoster
      ∧ forming.decidesOn 3 (formMessage .found 3 0 [])
      ∧ kindOf (formMessage .found 3 0 []) = some .found :=
  ⟨.inl ⟨2, by decide +kernel, by decide +kernel, .inl (by decide +kernel)⟩, .inl (by decide +kernel),
    .inl ⟨2, by decide +kernel, by decide +kernel, .inr (.inl (by decide +kernel))⟩,
    .inl ⟨1, by decide +kernel, by decide +kernel, .inl (by decide +kernel)⟩,
    by simp only [State.decidesByRoster]; decide +kernel,
    .inl ⟨1, by decide +kernel, by decide +kernel, .inl (by decide +kernel)⟩, by decide +kernel⟩
theorem test_sent_message_decides_in_doubt :
    (doubting.setLine { doubting.line with intact := some false }).decidesOn 3
      (formMessage .leave 3 7 [2]) :=
  .inr ⟨by decide +kernel, .inr (by decide +kernel), _, rfl, rfl, rfl, by decide +kernel⟩
theorem test_member_decides_on_the_line :
    (let s := (sender 0).setLine
        { (sender 0).line with receive := some claimMessage, intact := some false }
     s.cycleMessage.kind) = some .claim := by
  decide +kernel
theorem test_no_part_met :
    (idleEnd .standby).survives (accepts 0x28) (accepts 0x28) = true
      ∧ (idleEnd .seeking).selector.inFlight = none
      ∧ (claimed (idleEnd .seeking) (.winner 2 5)).canMake .verdict = true := by
  decide +kernel
theorem test_disagree_met :
    (receiver .synced).survives (accepts 0x28) (accepts 0x08) = true
      ∧ (receiver .synced).line.claimActive = true
      ∧ (receiver .synced).commits (accepts 0x28) = true
      ∧ (receiver .synced).commits (accepts 0x08) = false
      ∧ (receiver .synced).canDoubt = true
      ∧ (receiver .doubt).commits (accepts 0x28) = true
      ∧ (receiver .doubt).commits (accepts 0x08) = false
      ∧ (receiver .doubt).survives (accepts 0x28) (accepts 0x08) = true := by
  decide +kernel
theorem test_sender_view_met :
    (sender 0).running ∧ (sender 0).canMake .verdict = true ∧ (sender 0).station = .synced
      ∧ (sender 0).survives (accepts 0x08) (accepts 0x08) = true
      ∧ (sender 0).selector.inFlight = some (releaseFlight .won)
      ∧ (sender 0).sendQueue.find 9 = some { releaseEntry with state := .inFlight }
      ∧ (sender 0).commits (accepts 0x08) = false
      ∧ 0 + 1 < (sender 0).controller.config.retryLimit
      ∧ (sender 3).controller.config.retryLimit ≤ 3 + 1
      ∧ (sender 0).commits { accept := 0x28, object := 0x20 } = false
      ∧ (sender 3).survives (accepts 0x08) (accepts 0x08) = true
      ∧ (sender 3).commits (accepts 0x08) = false := by
  decide +kernel

/-- A joiner at the end of its 128th cycle with no SNAP, in an idle cycle. -/
def stalled (st : StationState) : State :=
  (idleEnd st).setSnapshot { Snapshot.cleared with stall := 127 }

theorem test_stall_met :
    (stalled .joining).running ∧ (stalled .joining).snapshot.stall = 127
      ∧ (stalled .joining).station = .joining ∧ (stalled .leaving).station = .leaving
      ∧ (stalled .leaving).ownRole ≠ .member
      ∧ (stalled .leaving).controller.config.rejoin = false := by
  decide
theorem test_hold_off_met :
    ((idleEnd .seeking).setSelector { Selector.cleared with seekHold := 1 }).selector.seekHold = 1
      ∧ ((idleEnd .synced).setSelector { Selector.cleared with snapHold := 1 }).selector.snapHold
          = 1 := by
  decide

/-! ## Zone, roster, layouts, invariants -/

theorem test_claim_cases_met :
    mem zoneTwelve.holders 3 = true ∧ waits zoneTwelve.queue 5 = true
      ∧ mem zoneTwelve.holders 6 = false ∧ waits zoneTwelve.queue 6 = false
      ∧ ZoneEntry.cleared.state = .free ∧ zoneTwelve.queue.length < 4
      ∧ ({ zoneTwelveGranted with queue := [] } : ZoneEntry).state = .shared := by
  decide +kernel
theorem test_zone_rules_met :
    zoneTwelve.remaining = some (.cycles 40) ∧ mem zoneTwelveGranted.holders 5 = true
      ∧ mem zoneTwelveGranted.holders 9 = true
      ∧ (∀ x : Addr, x ≠ 3 → mem zoneTwelve.holders x = false)
      ∧ (∃ w ∈ zoneTwelveGranted.queue, w.station = 4)
      ∧ (∀ w ∈ zoneTwelveGranted.queue, w.station ≠ 5)
      ∧ zoneTwelveGranted.state = .shared
      ∧ (∀ w ∈ zoneTwelveGranted.queue.head?, w.mode = .exclusive)
      ∧ mem zoneTwelveGranted.holders 4 = false ∧ mem zoneTwelveGranted.holders 7 = false
      ∧ (∀ w ∈ zoneTwelveGranted.queue, w.station ≠ 7) := by
  decide +kernel
theorem test_shared_admission_met :
    ({ zoneTwelveGranted with queue := [{ station := 6, mode := .shared, duration := 3 }] } :
        ZoneEntry).remaining = some .unlimited
      ∧ (sharedAdmission
          { zoneTwelveGranted with
            queue := [{ station := 6, mode := .shared, duration := 3 }] }).granted = single 6 := by
  decide +kernel
theorem test_removals_met :
    ((duo.applyJoinReq 4).applyJoinReq 6).role 4 = .joining
      ∧ ((duo.applyJoinReq 4).applyJoinReq 6).joinQueue = [6]
      ∧ ((duo.applyJoinReq 4).applyJoinReq 6).role 6 = .queued
      ∧ (duo.remove 5).role 3 = .member ∧ (∀ x : Addr, x ≠ 3 → (duo.remove 5).role x ≠ .member)
      ∧ duo.progress ≠ some 64 := by
  decide +kernel
theorem test_roster_effects_met :
    duo.role 4 = .absent ∧ duo.donor ≠ none ∧ duo.joiner = none
      ∧ (duo.applyJoinReq 4).joiner = some 4 ∧ (duo.applyJoinReq 4).progress = some 0
      ∧ duo.role 3 = .member ∧ duo.role 5 = .member ∧ (duo.applyJoinReq 4).role 6 = .absent
      ∧ (duo.applyJoinReq 4).joinQueue = [] := by
  decide +kernel
theorem test_roster_last_block_met :
    ({ (duo.applyJoinReq 4).applyJoinReq 6 with progress := some 64 } : Roster).joinQueue = [6]
      ∧ ({ duo.applyJoinReq 4 with progress := some 64 } : Roster).joiner = some 4 := by
  decide +kernel
theorem test_layouts_met :
    zoneTwelve.wf = true ∧ (duo.applyJoinReq 4).progress = some 0
      ∧ (duo.applyJoinReq 4).joinQueue.length ≤ 14 ∧ SlotMode.synced ≠ .unknown
      ∧ ([2, 1, 0, 1] : List Byte).length ≤ 16 := by
  decide +kernel
theorem test_invariants_met :
    (inCluster .synced).wf = true ∧ (seat .offline).silentFits = true
      ∧ (seat .faulted).station = .faulted := by
  decide +kernel
/-- A station stopped in STANDBY while its slot is being driven. -/
def stopped : State :=
  let s := atPoint (seat .offline) .mark 47
  s.setLine { s.line with
    slotDrive := some { address := 3, mode := .standby, counter := 0 } }

theorem test_stopped_slot_met :
    stopped.silentFits = true ∧ stopped.station = .offline ∧ stopped.pldDominant 48 = true
      ∧ (seat .faulted).silentFits = true := by
  decide +kernel
theorem test_invariant_step_answers : ∃ t, step (inCluster .synced) = .next t := ⟨_, rfl⟩

end Sys2Proof.Tests
end

section
/-! SUPPORT. What the rules of one zone entry give (Chapter 1): the larger of two remaining values, a run of waiter
records, the grant, shared admission, and the form of an entry after each of them. -/

namespace Sys2Proof.Machine

/-! ## The larger of two remaining values (R6) -/

theorem durationValue_zero : durationValue 0 = .unlimited := rfl

theorem durationValue_of_ne {d : Byte} (h : d ≠ 0) : durationValue d = .cycles (d.toNat * 64) := by
  exact if_neg h

@[simp] theorem larger_cycles (m n : Nat) : larger (.cycles m) (.cycles n) = .cycles (max m n) := rfl

@[simp] theorem larger_unlimited_left (r : Remaining) : larger .unlimited r = .unlimited := by
  cases r <;> rfl

@[simp] theorem larger_unlimited_right (r : Remaining) : larger r .unlimited = .unlimited := by
  cases r <;> rfl

/-- The larger value is one of the two. -/
theorem larger_cases (a b : Remaining) : larger a b = a ∨ larger a b = b := by
  cases a with
  | unlimited => exact .inl (larger_unlimited_left b)
  | cycles m =>
    cases b with
    | unlimited => exact .inr rfl
    | cycles n =>
      rcases Nat.le_total m n with h | h
      · exact .inr (by simp [h])
      · exact .inl (by simp [h])

/-- A value that is at least the larger of two is at least each of them. -/
theorem larger_absorbs {m a b : Remaining} (h : larger m (larger a b) = m) :
    larger m a = m ∧ larger m b = m := by
  cases m with
  | unlimited => simp
  | cycles k =>
    cases a with
    | unlimited => simp at h
    | cycles i =>
      cases b with
      | unlimited => simp at h
      | cycles j =>
        simp only [larger_cycles, Remaining.cycles.injEq] at h ⊢
        omega

/-! ## A run of waiter records (R15, R19) -/

theorem runStations_foldl (run : List Waiter) (set : StationSet) (x : Addr) :
    mem (run.foldl (fun set w => insert set w.station) set) x = true ↔
      mem set x = true ∨ ∃ w ∈ run, w.station = x := by
  induction run generalizing set with
  | nil => simp
  | cons w run ih => simp [ih, or_assoc]

theorem mem_runStations (run : List Waiter) (x : Addr) :
    mem (runStations run) x = true ↔ ∃ w ∈ run, w.station = x := by
  exact (runStations_foldl run 0 x).trans (by simp)

/-- The value of a run is at least its start and every duration of the run. -/
theorem runRemaining_largest (run : List Waiter) (start : Remaining) :
    larger (runRemaining start run) start = runRemaining start run
      ∧ ∀ w ∈ run, larger (runRemaining start run) (durationValue w.duration)
          = runRemaining start run := by
  induction run generalizing start with
  | nil => cases start <;> simp [runRemaining]
  | cons w run ih =>
    obtain ⟨hstart, hrun⟩ := ih (larger start (durationValue w.duration))
    obtain ⟨h₁, h₂⟩ := larger_absorbs hstart
    refine ⟨h₁, fun v hv => ?_⟩
    rcases List.mem_cons.mp hv with rfl | hv
    · exact h₂
    · exact hrun v hv

/-- The value of a run is its start or one of the durations of the run. -/
theorem runRemaining_attained (run : List Waiter) (start : Remaining) :
    runRemaining start run = start
      ∨ ∃ w ∈ run, runRemaining start run = durationValue w.duration := by
  induction run generalizing start with
  | nil => exact .inl rfl
  | cons w run ih =>
    rcases ih (larger start (durationValue w.duration)) with h | ⟨v, hv, h⟩
    · rcases larger_cases start (durationValue w.duration) with h' | h'
      · exact .inl (h.trans h')
      · exact .inr ⟨w, List.mem_cons_self, h.trans h'⟩
    · exact .inr ⟨v, List.mem_cons_of_mem w hv, h⟩

/-! ## The grant from the wait queue (R18, R19) -/

theorem grantFromQueue_nil (g : Byte) : grantFromQueue g [] = changedZone (freeZone g) := rfl

theorem grantFromQueue_exclusive (g : Byte) {head : Waiter} (rest : List Waiter)
    (h : head.mode = .exclusive) :
    grantFromQueue g (head :: rest) =
      { entry :=
          { state := .exclusive, holders := single head.station
            remaining := some (durationValue head.duration), generation := g + 1, queue := rest }
        granted := single head.station, expired := 0 } := by
  simp [grantFromQueue, h]

theorem grantFromQueue_shared (g : Byte) {head : Waiter} (rest : List Waiter)
    (h : head.mode = .shared) :
    grantFromQueue g (head :: rest) =
      { entry :=
          { state := .shared, holders := runStations (head :: rest.takeWhile isShared)
            remaining :=
              some (runRemaining (durationValue head.duration) (head :: rest.takeWhile isShared))
            generation := g + 1, queue := rest.dropWhile isShared }
        granted := runStations (head :: rest.takeWhile isShared), expired := 0 } := by
  simp [grantFromQueue, h]

/-! ## Shared admission (R15) -/

theorem sharedAdmission_of_not_shared {e : ZoneEntry} (h : e.state ≠ .shared) :
    sharedAdmission e = unchangedZone e := by
  simp [sharedAdmission, h]

theorem sharedAdmission_of_no_run {e : ZoneEntry} (h : e.queue.takeWhile isShared = []) :
    sharedAdmission e = unchangedZone e := by
  unfold sharedAdmission
  split
  · simp [h]
  · rfl

theorem sharedAdmission_of_run {e : ZoneEntry} {r : Remaining} (hs : e.state = .shared)
    (hq : e.queue.takeWhile isShared ≠ []) (hr : e.remaining = some r) :
    sharedAdmission e =
      { entry :=
          { e with
            holders := e.holders ||| runStations (e.queue.takeWhile isShared)
            remaining := some (runRemaining r (e.queue.takeWhile isShared))
            queue := e.queue.dropWhile isShared }
        granted := runStations (e.queue.takeWhile isShared), expired := 0 } := by
  obtain ⟨w, run, hrun⟩ := List.exists_cons_of_ne_nil hq
  simp [sharedAdmission, hs, hr, hrun]

/-- Shared admission does nothing, or admits the leading SHARED run to a SHARED zone with a remaining value. -/
theorem sharedAdmission_cases (e : ZoneEntry) :
    sharedAdmission e = unchangedZone e
      ∨ e.state = .shared ∧ ∃ r, e.remaining = some r ∧ sharedAdmission e =
          { entry :=
              { e with
                holders := e.holders ||| runStations (e.queue.takeWhile isShared)
                remaining := some (runRemaining r (e.queue.takeWhile isShared))
                queue := e.queue.dropWhile isShared }
            granted := runStations (e.queue.takeWhile isShared), expired := 0 } := by
  by_cases hs : e.state = .shared
  · by_cases hq : e.queue.takeWhile isShared = []
    · exact .inl (sharedAdmission_of_no_run hq)
    · cases hr : e.remaining with
      | none =>
        obtain ⟨w, run, hrun⟩ := List.exists_cons_of_ne_nil hq
        exact .inl (by simp [sharedAdmission, hs, hr, hrun])
      | some r => exact .inr ⟨hs, r, rfl, sharedAdmission_of_run hs hq hr⟩
  · exact .inl (sharedAdmission_of_not_shared hs)

/-! ## Holders and waiters -/

theorem waits_iff (queue : List Waiter) (a : Addr) :
    waits queue a = true ↔ ∃ w ∈ queue, w.station = a := by
  simp [waits]

theorem waits_eq_false_iff (queue : List Waiter) (a : Addr) :
    waits queue a = false ↔ ∀ w ∈ queue, w.station ≠ a := by
  simp [waits]

/-- A station is the only holder exactly when the set without it is empty. -/
theorem erase_eq_zero_iff (set : StationSet) (a : Addr) :
    erase set a = 0 ↔ ∀ x, x ≠ a → mem set x = false := by
  refine (eq_empty_iff _).trans (forall_congr' fun x => ?_)
  by_cases hx : x = a
  · simp [hx]
  · simp [hx, Ne.symm hx]

/-! ## The form of an entry (R1, R2) -/

theorem remainingInRange_durationValue (d : Byte) :
    remainingInRange (some (durationValue d)) = true := by
  by_cases h : d = 0
  · rw [h, durationValue_zero]
    rfl
  · have hne : d.toNat ≠ 0 := fun h0 => h (BitVec.eq_of_toNat_eq (by simpa using h0))
    have hlt := d.isLt
    simp only [durationValue_of_ne h, remainingInRange, Bool.and_eq_true, decide_eq_true_eq]
    omega

theorem remainingInRange_larger {a b : Remaining} (ha : remainingInRange (some a) = true)
    (hb : remainingInRange (some b) = true) : remainingInRange (some (larger a b)) = true := by
  rcases larger_cases a b with h | h <;> simpa [h]

theorem remainingInRange_runRemaining {start : Remaining}
    (h : remainingInRange (some start) = true) (run : List Waiter) :
    remainingInRange (some (runRemaining start run)) = true := by
  rcases runRemaining_attained run start with h' | ⟨w, _, h'⟩
  · rwa [h']
  · rw [h']
    exact remainingInRange_durationValue w.duration

theorem remainingInRange_raise {r : Option Remaining} (hr : remainingInRange r = true) (d : Byte) :
    remainingInRange (raise r (durationValue d)) = true := by
  cases r with
  | none => exact remainingInRange_durationValue d
  | some r => exact remainingInRange_larger hr (remainingInRange_durationValue d)

theorem countAddrs_single (a : Addr) : countAddrs (mem (single a)) = 1 := by
  revert a
  decide

/-- Two addresses with a property that one address has are the same. -/
theorem eq_of_countAddrs_one {p : Addr → Bool} (h : countAddrs p = 1) {a b : Addr}
    (ha : p a = true) (hb : p b = true) : a = b := by
  rw [countAddrs, List.countP_eq_length_filter, List.length_eq_one_iff] at h
  obtain ⟨c, hc⟩ := h
  have hmem : ∀ x, p x = true → x = c := fun x hx => by
    have : x ∈ allAddrs.filter p := List.mem_filter.mpr ⟨List.mem_finRange x, hx⟩
    simpa [hc] using this
  rw [hmem a ha, hmem b hb]

/-- The holders of a zone that is not FREE: one in an EXCLUSIVE zone, at least one in a SHARED zone (R1). -/
inductive HoldersFit : ZoneState → StationSet → Prop
  | exclusive {holders : StationSet} (h : countAddrs (mem holders) = 1) :
      HoldersFit .exclusive holders
  | shared {holders : StationSet} (h : holders ≠ 0) : HoldersFit .shared holders

/-- The wait queue beside the holders given: no station twice, no holder in it, at most four records (R2). -/
structure QueueFits (holders : StationSet) (queue : List Waiter) : Prop where
  nodup  : (queue.map Waiter.station).Nodup
  apart  : ∀ w ∈ queue, mem holders w.station = false
  length : queue.length ≤ 4

/-- The two forms of an entry: FREE with nothing but a generation, or held. -/
inductive EntryForm (e : ZoneEntry) : Prop
  | free (h : e = freeZone e.generation)
  | held (holders : HoldersFit e.state e.holders) (remaining : remainingInRange e.remaining = true)
      (queue : QueueFits e.holders e.queue)

/-- The form of an entry as the model checks it (`ZoneEntry.wf`). -/
theorem ZoneEntry.wf_iff_form (e : ZoneEntry) : e.wf = true ↔ EntryForm e := by
  obtain ⟨state, holders, remaining, generation, queue⟩ := e
  have hfits : ∀ z r, (ZoneEntry.wf ⟨z, holders, r, generation, queue⟩ = true ↔
      stateFits ⟨z, holders, r, generation, queue⟩ = true ∧ QueueFits holders queue) := fun z r => by
    simp only [ZoneEntry.wf, stationsOnce, Bool.and_eq_true, decide_eq_true_eq, List.all_eq_true,
      Bool.not_eq_true']
    exact ⟨fun ⟨⟨h, hn, ha⟩, hl⟩ => ⟨h, hn, ha, hl⟩, fun ⟨h, hn, ha, hl⟩ => ⟨⟨h, hn, ha⟩, hl⟩⟩
  rw [hfits]
  constructor
  · rintro ⟨hs, hq⟩
    cases state <;> simp only [stateFits, Bool.and_eq_true, beq_iff_eq, bne_iff_ne] at hs
    case free =>
      obtain ⟨⟨rfl, rfl⟩, rfl⟩ := hs
      exact .free rfl
    case exclusive => exact .held (.exclusive hs.1) hs.2 hq
    case shared => exact .held (.shared hs.1) hs.2 hq
  · rintro (h | ⟨hh, hr, hq⟩)
    · cases h
      exact ⟨rfl, List.nodup_nil, by simp, by simp⟩
    · refine ⟨?_, hq⟩
      cases hh with
      | exclusive hone => simp [stateFits, hone, hr]
      | shared hne => simpa [stateFits, hr] using hne

theorem freeZone_form (g : Byte) : EntryForm (freeZone g) := .free rfl

theorem HoldersFit.ne_free {z : ZoneState} {holders : StationSet} (h : HoldersFit z holders) :
    z ≠ .free := by
  cases h <;> simp

theorem ne_zero_of_mem {set : StationSet} {a : Addr} (h : mem set a = true) : set ≠ 0 :=
  fun h0 => by simp [h0] at h

/-- The only holder of a claimed zone, whatever its mode. -/
theorem HoldersFit.single (m : LeaseMode) (a : Addr) : HoldersFit (stateOfMode m) (single a) := by
  cases m with
  | exclusive => exact .exclusive (countAddrs_single a)
  | shared => exact .shared (ne_zero_of_mem (a := a) (by simp))

/-- A SHARED zone may gain holders. -/
theorem HoldersFit.or {z : ZoneState} {holders : StationSet} (h : HoldersFit z holders)
    (hz : z = .shared) (more : StationSet) : HoldersFit z (holders ||| more) := by
  cases h with
  | exclusive _ => cases hz
  | shared hne =>
    refine .shared fun h0 => hne ((eq_empty_iff _).mpr fun x => ?_)
    have hx := (eq_empty_iff _).mp h0 x
    rw [mem_or, Bool.or_eq_false_iff] at hx
    exact hx.1

/-- A holder taken out of its zone leaves holders, unless it was the only one. -/
theorem HoldersFit.erase {z : ZoneState} {holders : StationSet} {a : Addr} (h : HoldersFit z holders)
    (ha : mem holders a = true) (hne : erase holders a ≠ 0) : HoldersFit z (erase holders a) := by
  cases h with
  | exclusive hone =>
    refine absurd ((erase_eq_zero_iff _ _).mpr fun x hx => ?_) hne
    exact Bool.eq_false_iff.mpr fun hm => hx (eq_of_countAddrs_one hone hm ha)
  | shared _ => exact .shared hne

theorem QueueFits.nil (holders : StationSet) : QueueFits holders [] :=
  { nodup := List.nodup_nil, apart := by simp, length := by simp }

/-- Part of a queue keeps its form, beside holders that are not in that part. -/
theorem QueueFits.sublist {holders holders' : StationSet} {queue queue' : List Waiter}
    (h : QueueFits holders queue) (hs : queue'.Sublist queue)
    (ha : ∀ w ∈ queue', mem holders' w.station = false) : QueueFits holders' queue' :=
  { nodup := h.nodup.sublist (hs.map Waiter.station)
    apart := ha
    length := hs.length_le.trans h.length }

theorem QueueFits.dropWaiter {holders : StationSet} {queue : List Waiter} (h : QueueFits holders queue)
    (a : Addr) : QueueFits holders (dropWaiter queue a) :=
  h.sublist List.filter_sublist fun w hw => h.apart w (List.filter_sublist.subset hw)

theorem QueueFits.append {holders : StationSet} {queue : List Waiter} {w : Waiter}
    (h : QueueFits holders queue) (hw : ∀ v ∈ queue, v.station ≠ w.station)
    (hold : mem holders w.station = false) (hroom : queue.length < 4) :
    QueueFits holders (queue ++ [w]) where
  nodup := by simpa [List.nodup_append, h.nodup] using hw
  apart v hv := by
    rcases List.mem_append.mp hv with hv | hv
    · exact h.apart v hv
    · rwa [List.mem_singleton.mp hv]
  length := by simpa using hroom

/-- No station of a run waits behind it. -/
theorem QueueFits.run_apart {holders : StationSet} {run rest : List Waiter}
    (h : QueueFits holders (run ++ rest)) : ∀ w ∈ rest, mem (runStations run) w.station = false := by
  intro w hw
  have hn := h.nodup
  rw [List.map_append, List.nodup_append] at hn
  obtain ⟨-, -, hne⟩ := hn
  rw [Bool.eq_false_iff, Ne, mem_runStations]
  rintro ⟨v, hv, hvw⟩
  exact hne _ (List.mem_map_of_mem hv) _ (List.mem_map_of_mem hw) hvw

theorem EntryForm.queueFits {e : ZoneEntry} (h : EntryForm e) : QueueFits e.holders e.queue := by
  rcases h with h | ⟨-, -, hq⟩
  · rw [h]
    exact QueueFits.nil _
  · exact hq

/-- A zone with a holder is held. -/
theorem EntryForm.of_holder {e : ZoneEntry} {a : Addr} (h : EntryForm e) (ha : mem e.holders a = true) :
    HoldersFit e.state e.holders ∧ remainingInRange e.remaining = true := by
  rcases h with h | ⟨hh, hr, -⟩
  · rw [h] at ha
    simp [freeZone] at ha
  · exact ⟨hh, hr⟩

theorem EntryForm.of_not_free {e : ZoneEntry} (h : EntryForm e) (hs : e.state ≠ .free) :
    HoldersFit e.state e.holders ∧ remainingInRange e.remaining = true := by
  rcases h with h | ⟨hh, hr, -⟩
  · rw [h] at hs
    exact absurd rfl hs
  · exact ⟨hh, hr⟩

/-! ## What keeps the form of an entry -/

/-- R18, R19: whatever a queue of its form is granted, the entry has its form. -/
theorem grantFromQueue_form (g : Byte) {holders : StationSet} {queue : List Waiter}
    (h : QueueFits holders queue) : EntryForm (grantFromQueue g queue).entry := by
  cases queue with
  | nil => exact freeZone_form g
  | cons head rest =>
    have hsub : rest.Sublist (head :: rest) := List.sublist_cons_self head rest
    cases hm : head.mode with
    | exclusive =>
      rw [grantFromQueue_exclusive g rest hm]
      refine .held (HoldersFit.single .exclusive _) (remainingInRange_durationValue _)
        (h.sublist hsub fun w hw => ?_)
      simpa [runStations] using h.run_apart (run := [head]) w hw
    | shared =>
      have hq : head :: rest = (head :: rest.takeWhile isShared) ++ rest.dropWhile isShared := by
        simp
      rw [grantFromQueue_shared g rest hm]
      exact .held
        (.shared (ne_zero_of_mem ((mem_runStations _ head.station).mpr ⟨head, by simp, rfl⟩)))
        (remainingInRange_runRemaining (remainingInRange_durationValue _) _)
        (h.sublist ((List.dropWhile_sublist _).trans hsub) (QueueFits.run_apart (hq ▸ h)))

/-- R15: shared admission keeps the form of an entry. -/
theorem sharedAdmission_form {e : ZoneEntry} (h : EntryForm e) :
    EntryForm (sharedAdmission e).entry := by
  rcases sharedAdmission_cases e with h' | ⟨hs, r, hr, h'⟩
  · rwa [h']
  · obtain ⟨hh, hrange⟩ := h.of_not_free (by simp [hs])
    have hsub : (e.queue.dropWhile isShared).Sublist e.queue := List.dropWhile_sublist _
    have hrun : ∀ w ∈ e.queue.dropWhile isShared,
        mem (runStations (e.queue.takeWhile isShared)) w.station = false :=
      QueueFits.run_apart (holders := e.holders) (by simpa using h.queueFits)
    rw [h']
    refine .held (hh.or hs _) (remainingInRange_runRemaining (hr ▸ hrange) _)
      (h.queueFits.sublist hsub fun w hw => ?_)
    simp [h.queueFits.apart w (hsub.subset hw), hrun w hw]

/-- R2: a waiter taken out of a queue leaves the entry in form. -/
theorem dropWaiter_form {e : ZoneEntry} (h : EntryForm e) (a : Addr) :
    EntryForm { e with queue := dropWaiter e.queue a } := by
  rcases h with h | ⟨hh, hr, hq⟩
  · rw [h]
    exact freeZone_form e.generation
  · exact .held hh hr (hq.dropWaiter a)

/-- R13, R16: a holder taken out leaves the entry in form. -/
theorem removeHolder_form {e : ZoneEntry} {a : Addr} (h : EntryForm e) (ha : mem e.holders a = true) :
    EntryForm (removeHolder e a).entry := by
  unfold removeHolder
  split
  · exact grantFromQueue_form e.generation h.queueFits
  · rename_i hne
    obtain ⟨hh, hr⟩ := h.of_holder ha
    refine .held (hh.erase ha hne) hr (h.queueFits.sublist (List.Sublist.refl _) fun w hw => ?_)
    show mem (erase e.holders a) w.station = false
    simp [h.queueFits.apart w hw]

/-- R7 to R10: a CLAIM keeps the form of an entry. -/
theorem claimZone_form {e : ZoneEntry} (h : EntryForm e) (s : Addr) (m : LeaseMode) (d : Byte)
    (w : Bool) : EntryForm (claimZone e s m d w).entry := by
  unfold claimZone
  split
  · exact h
  · rename_i hnew
    obtain ⟨hold, hwait⟩ : mem e.holders s = false ∧ waits e.queue s = false := by
      simpa using hnew
    split
    · rename_i hs
      have hnil : e.queue = [] := by
        rcases h with h | ⟨hh, -, -⟩
        · rw [h]; rfl
        · exact absurd hs hh.ne_free
      exact .held (HoldersFit.single m s) (remainingInRange_durationValue d)
        (by rw [hnil]; exact QueueFits.nil _)
    · rename_i hheld
      obtain ⟨hh, hr⟩ := h.of_not_free hheld
      split
      · rename_i hjoin
        obtain ⟨hs, -, hnil⟩ := hjoin
        exact .held (hh.or hs _) (remainingInRange_raise hr d) (by rw [hnil]; exact QueueFits.nil _)
      · split
        · rename_i hroom
          exact .held hh hr (h.queueFits.append ((waits_eq_false_iff _ _).mp hwait) hold hroom.2)
        · exact h

/-- R12: a RENEW keeps the form of an entry. -/
theorem renewZone_form {e : ZoneEntry} (h : EntryForm e) (s : Addr) (d : Byte) :
    EntryForm (renewZone e s d).entry := by
  unfold renewZone
  split
  · rename_i hold
    obtain ⟨hh, hr⟩ := h.of_holder hold
    exact .held hh (remainingInRange_raise hr d) h.queueFits
  · exact h

/-- R13: a RELEASE keeps the form of an entry. -/
theorem releaseZone_form {e : ZoneEntry} (h : EntryForm e) (s : Addr) :
    EntryForm (releaseZone e s).entry := by
  unfold releaseZone
  split
  · exact removeHolder_form h ‹_›
  · exact h

/-- R14: a CANCEL keeps the form of an entry. -/
theorem cancelZone_form {e : ZoneEntry} (h : EntryForm e) (s : Addr) :
    EntryForm (cancelZone e s).entry := by
  unfold cancelZone
  split
  · exact sharedAdmission_form (dropWaiter_form h s)
  · exact h

/-- R16: a removal is a RELEASE, and a CANCEL on what it leaves where the station waits there. -/
theorem removeFromZone_eq (e : ZoneEntry) (t : Addr) :
    removeFromZone e t =
      if waits (releaseZone e t).entry.queue t then
        { entry := (cancelZone (releaseZone e t).entry t).entry
          granted := (releaseZone e t).granted ||| (cancelZone (releaseZone e t).entry t).granted
          expired := 0 }
      else releaseZone e t := by
  show (if waits (releaseZone e t).entry.queue t = true then _ else releaseZone e t) = _
  split
  · rename_i hw
    simp only [cancelZone, hw, if_true]
    rfl
  · rfl

/-- R16: a removal keeps the form of an entry. -/
theorem removeFromZone_form {e : ZoneEntry} (h : EntryForm e) (t : Addr) :
    EntryForm (removeFromZone e t).entry := by
  rw [removeFromZone_eq]
  split
  · exact cancelZone_form (releaseZone_form h t) t
  · exact releaseZone_form h t

/-! ## The expiry pass over a zone (R21, R22) -/

theorem expireZone_of_free {e : ZoneEntry} (h : e.state = .free) : expireZone e = unchangedZone e := by
  simp [expireZone, h]

theorem expireZone_of_unlimited {e : ZoneEntry} (h : e.remaining = some .unlimited) :
    expireZone e = unchangedZone e := by
  cases hs : e.state with
  | free => exact expireZone_of_free hs
  | exclusive => simp [expireZone, hs, h]
  | shared => simp [expireZone, hs, h]

theorem expireZone_of_cycles {e : ZoneEntry} {n : Nat} (hs : e.state ≠ .free)
    (hr : e.remaining = some (.cycles n)) (hn : 2 ≤ n) :
    expireZone e = changedZone { e with remaining := some (.cycles (n - 1)) } := by
  have hle : ¬ n ≤ 1 := by omega
  cases h : e.state with
  | free => exact absurd h hs
  | exclusive => simp [expireZone, h, hr, hle]
  | shared => simp [expireZone, h, hr, hle]

theorem expireZone_of_last {e : ZoneEntry} {n : Nat} (hs : e.state ≠ .free)
    (hr : e.remaining = some (.cycles n)) (hn : n ≤ 1) :
    expireZone e = { grantFromQueue e.generation e.queue with expired := e.holders } := by
  cases h : e.state with
  | free => exact absurd h hs
  | exclusive => simp [expireZone, h, hr, hn]
  | shared => simp [expireZone, h, hr, hn]

theorem leaseRunsOut_of_last {e : ZoneEntry} {n : Nat} (hs : e.state ≠ .free)
    (hr : e.remaining = some (.cycles n)) (hn : n ≤ 1) : leaseRunsOut e = true := by
  cases h : e.state with
  | free => exact absurd h hs
  | exclusive => simp [leaseRunsOut, h, hr, hn]
  | shared => simp [leaseRunsOut, h, hr, hn]

/-- R21, R22: the expiry pass keeps the form of an entry. -/
theorem expireZone_form {e : ZoneEntry} (h : EntryForm e) : EntryForm (expireZone e).entry := by
  by_cases hs : e.state = .free
  · rwa [expireZone_of_free hs]
  · obtain ⟨hh, hr⟩ := h.of_not_free hs
    cases hrem : e.remaining with
    | none => simp [hrem, remainingInRange] at hr
    | some r =>
      cases r with
      | unlimited => rwa [expireZone_of_unlimited hrem]
      | cycles n =>
        by_cases hn : n ≤ 1
        · rw [expireZone_of_last hs hrem hn]
          exact grantFromQueue_form e.generation h.queueFits
        · rw [expireZone_of_cycles hs hrem (by omega)]
          refine .held hh ?_ h.queueFits
          simp only [hrem, remainingInRange, Bool.and_eq_true, decide_eq_true_eq] at hr
          simp only [changedZone, remainingInRange, Bool.and_eq_true, decide_eq_true_eq]
          omega

end Sys2Proof.Machine
end

section
/-! SUPPORT. The statements about the reset value, the durations and the rules of one zone entry settled. -/

namespace Sys2Proof.Machine

/-! ## The queue a RELEASE leaves -/

theorem grantFromQueue_queue_sublist (g : Byte) (queue : List Waiter) :
    (grantFromQueue g queue).entry.queue.Sublist queue := by
  cases queue with
  | nil => exact List.Sublist.refl _
  | cons head rest =>
    cases hm : head.mode with
    | exclusive =>
      rw [grantFromQueue_exclusive g rest hm]
      exact List.sublist_cons_self head rest
    | shared =>
      rw [grantFromQueue_shared g rest hm]
      exact (List.dropWhile_sublist _).trans (List.sublist_cons_self head rest)

theorem releaseZone_of_not_holder {e : ZoneEntry} {s : Addr} (h : mem e.holders s = false) :
    releaseZone e s = unchangedZone e := by
  simp [releaseZone, h]

theorem releaseZone_of_holder {e : ZoneEntry} {s : Addr} (h : mem e.holders s = true) :
    releaseZone e s = removeHolder e s := by
  simp [releaseZone, h]

/-- The last holder's RELEASE gives way to the grant from the queue. -/
theorem removeHolder_of_last {e : ZoneEntry} {s : Addr} (h : erase e.holders s = 0) :
    removeHolder e s = grantFromQueue e.generation e.queue := by
  simp only [removeHolder, h, if_true]

theorem removeHolder_of_others {e : ZoneEntry} {s : Addr} (h : erase e.holders s ≠ 0) :
    removeHolder e s = changedZone { e with holders := erase e.holders s } := by
  simp only [removeHolder, h, if_false]

theorem releaseZone_queue_sublist (e : ZoneEntry) (s : Addr) :
    (releaseZone e s).entry.queue.Sublist e.queue := by
  by_cases hm : mem e.holders s = true
  · rw [releaseZone_of_holder hm]
    by_cases he : erase e.holders s = 0
    · rw [removeHolder_of_last he]
      exact grantFromQueue_queue_sublist e.generation e.queue
    · rw [removeHolder_of_others he]
      exact List.Sublist.refl _
  · rw [releaseZone_of_not_holder (by simpa using hm)]
    exact List.Sublist.refl _

theorem sharedAdmission_expired (e : ZoneEntry) : (sharedAdmission e).expired = 0 := by
  rcases sharedAdmission_cases e with h | ⟨-, r, -, h⟩
  · rw [h]
    rfl
  · rw [h]

theorem cancelZone_of_waiter {e : ZoneEntry} {s : Addr} (h : waits e.queue s = true) :
    cancelZone e s = sharedAdmission { e with queue := dropWaiter e.queue s } := by
  simp [cancelZone, h]

theorem cancelZone_of_not_waiter {e : ZoneEntry} {s : Addr} (h : waits e.queue s = false) :
    cancelZone e s = unchangedZone e := by
  simp [cancelZone, h]

/-! ## CLAIM, case by case (R7 to R10) -/

theorem claim_known {e : ZoneEntry} {s : Addr} (m : LeaseMode) (d : Byte) (w : Bool)
    (h : mem e.holders s = true ∨ waits e.queue s = true) :
    (claimZone e s m d w).entry = e ∧ (claimOutcome e s m w).outcome = .already := by
  have h' : (mem e.holders s || waits e.queue s) = true := by simpa using h
  simp [claimZone, claimOutcome, h', unchangedZone, plainOutcome]

section
variable {e : ZoneEntry} {s : Addr} (hold : mem e.holders s = false) (hwait : waits e.queue s = false)
include hold hwait

theorem claim_free (m : LeaseMode) (d : Byte) (w : Bool) (hs : e.state = .free) :
    (claimZone e s m d w).entry =
        { state := stateOfMode m, holders := single s, remaining := some (durationValue d)
          generation := e.generation + 1, queue := e.queue }
      ∧ (claimOutcome e s m w).outcome = .granted := by
  simp [claimZone, claimOutcome, hold, hwait, hs, changedZone, plainOutcome]

theorem claim_join {m : LeaseMode} (d : Byte) (w : Bool) {r : Remaining} (hs : e.state = .shared)
    (hm : m = .shared) (hq : e.queue = []) (hr : e.remaining = some r) :
    (claimZone e s m d w).entry =
        { e with holders := insert e.holders s, remaining := some (larger r (durationValue d)) }
      ∧ (claimOutcome e s m w).outcome = .granted := by
  rw [hq] at hwait
  simp [claimZone, claimOutcome, hold, hwait, hs, hm, hq, hr, changedZone, plainOutcome, raise]

/-- A claim of a held zone that cannot join it waits at the tail, or finds the zone BUSY. -/
theorem claim_held {m : LeaseMode} (d : Byte) (w : Bool) (hs : e.state ≠ .free)
    (hj : e.state = .exclusive ∨ m = .exclusive ∨ e.queue ≠ []) :
    (w = true → e.queue.length < 4 →
        (claimZone e s m d w).entry =
          { e with queue := e.queue ++ [{ station := s, mode := m, duration := d }] }
        ∧ claimOutcome e s m w =
            { outcome := .queued, position := some (e.queue.length + 1), set := none })
    ∧ (w = false ∨ 4 ≤ e.queue.length →
        (claimZone e s m d w).entry = e
        ∧ claimOutcome e s m w =
            { outcome := .busy, position := none, set := some e.holders }) := by
  have hjoin : ¬ (e.state = .shared ∧ m = .shared ∧ e.queue = []) := by
    rintro ⟨h₁, h₂, h₃⟩
    simp [h₁, h₂, h₃] at hj
  have hnew : (mem e.holders s || waits e.queue s) = false := by simp [hold, hwait]
  unfold claimZone claimOutcome
  simp only [hnew, hs, hjoin, if_false, Bool.false_eq_true]
  constructor
  · intro hw hlen
    have hroom : w = true ∧ e.queue.length < Config.waitQueueCapacity := ⟨hw, hlen⟩
    simp only [hroom, and_self, if_true]
    exact ⟨rfl, trivial⟩
  · intro hfull
    have hroom : ¬ (w = true ∧ e.queue.length < Config.waitQueueCapacity) := by
      rintro ⟨hw, hlen⟩
      have : e.queue.length < 4 := hlen
      rcases hfull with hf | hf
      · simp [hw] at hf
      · omega
    simp only [hroom, if_false]
    exact ⟨rfl, trivial⟩

end

/-! ## The leading SHARED run of a queue -/

theorem takeWhile_isShared_cons {head : Waiter} (rest : List Waiter) (h : head.mode = .shared) :
    (head :: rest).takeWhile isShared = head :: rest.takeWhile isShared := by
  simp [isShared, h]

/-- R15: the case of shared admission in which no waiter is admitted. -/
theorem sharedAdmission_none {e : ZoneEntry}
    (h : e.state ≠ .shared ∨ ∀ w ∈ e.queue.head?, w.mode = .exclusive) :
    sharedAdmission e = unchangedZone e := by
  rcases h with h | h
  · exact sharedAdmission_of_not_shared h
  · apply sharedAdmission_of_no_run
    cases hq : e.queue with
    | nil => rfl
    | cons head rest =>
      have hm : head.mode = .exclusive := h head (by simp [hq])
      simp [isShared, hm]

/-- R15: the admission of the leading SHARED run to a SHARED zone. -/
theorem sharedAdmission_run {e : ZoneEntry} {head : Waiter} {rest : List Waiter} {r : Remaining}
    (hs : e.state = .shared) (hq : e.queue = head :: rest) (hm : head.mode = .shared)
    (hr : e.remaining = some r) :
    (sharedAdmission e).entry.state = .shared
      ∧ (sharedAdmission e).entry.generation = e.generation
      ∧ (sharedAdmission e).entry.queue = e.queue.dropWhile isShared
      ∧ (∀ x, mem (sharedAdmission e).entry.holders x = true ↔
          mem e.holders x = true ∨ ∃ w ∈ e.queue.takeWhile isShared, w.station = x)
      ∧ (∀ x, mem (sharedAdmission e).granted x = true ↔
          ∃ w ∈ e.queue.takeWhile isShared, w.station = x)
      ∧ ∃ m, (sharedAdmission e).entry.remaining = some m ∧ larger m r = m
        ∧ (∀ w ∈ e.queue.takeWhile isShared, larger m (durationValue w.duration) = m)
        ∧ (m = r ∨ ∃ w ∈ e.queue.takeWhile isShared, m = durationValue w.duration) := by
  have hne : e.queue.takeWhile isShared ≠ [] := by
    rw [hq, takeWhile_isShared_cons rest hm]
    exact List.cons_ne_nil _ _
  obtain ⟨hle, hrun⟩ := runRemaining_largest (e.queue.takeWhile isShared) r
  rw [sharedAdmission_of_run hs hne hr]
  refine ⟨hs, rfl, rfl, fun x => ?_, mem_runStations _, _, rfl, hle, hrun, runRemaining_attained _ r⟩
  rw [mem_or, Bool.or_eq_true, mem_runStations]

/-! ## Removal (R16) -/

theorem removeFromZone_of_not_waiter {e : ZoneEntry} {t : Addr} (h : ∀ w ∈ e.queue, w.station ≠ t) :
    removeFromZone e t = releaseZone e t := by
  have hq : waits (releaseZone e t).entry.queue t = false :=
    (waits_eq_false_iff _ _).mpr fun w hw => h w ((releaseZone_queue_sublist e t).subset hw)
  simp [removeFromZone_eq, hq]

theorem removeFromZone_of_waiter {e : ZoneEntry} {t : Addr} (hold : mem e.holders t = false)
    (hw : waits e.queue t = true) : removeFromZone e t = cancelZone e t := by
  have hx : (cancelZone e t).expired = 0 := by
    rw [cancelZone_of_waiter hw]
    exact sharedAdmission_expired _
  rw [removeFromZone_eq, releaseZone_of_not_holder hold]
  show (if waits e.queue t = true then _ else _ : ZoneChange) = _
  rw [if_pos hw]
  show ZoneChange.mk (cancelZone e t).entry (0#16 ||| (cancelZone e t).granted) 0 = _
  rw [BitVec.zero_or]
  exact congrArg (ZoneChange.mk _ _) hx.symm

end Sys2Proof.Machine

open Sys2Proof Sys2Proof.Machine

/-- Settles O3: every block of the reset value is written out in `State.reset`, and the three tables hold one
cleared record at each index. -/
theorem resetHoldsTableValues : Obligations.ResetHoldsTableValues := by
  have hzones : ∀ z, State.reset.zones.get z = ZoneEntry.cleared := fun z => by
    simp [State.reset, ZoneTable.cleared, Vector.get]
  have hroles : ∀ a, State.reset.roster.role a = .absent := fun a => by
    simp [State.reset, Roster.cleared, Roster.role, Vector.get]
  have hpeers : ∀ a, State.reset.monitor.peers.get a = PeerRecord.cleared := fun a => by
    simp [State.reset, Monitor.cleared, Vector.get]
  exact ⟨rfl, hzones, hroles, rfl, rfl, rfl, hpeers, rfl, rfl, rfl, rfl, rfl, rfl, rfl, rfl, rfl, rfl,
    rfl, rfl, rfl, rfl, rfl, rfl, rfl, rfl, rfl, rfl, rfl, rfl⟩

/-- Settles O48, from the equations of `durationValue` and `larger`. -/
theorem durationsAndLarger : Obligations.DurationsAndLarger :=
  ⟨fun _ => durationValue_of_ne, durationValue_zero, larger_cycles, larger_unlimited_left,
    larger_unlimited_right⟩

/-- Settles O25: the four cases of the expiry pass, and the grant by the mode of the head of the queue. -/
theorem expiryAndGrantOfZone : Obligations.ExpiryAndGrantOfZone := by
  refine ⟨⟨fun e => expireZone_of_free, fun e => expireZone_of_unlimited,
    fun e n => expireZone_of_cycles, fun e hs hr => ?_⟩, fun g => ⟨grantFromQueue_nil g,
    fun a d rest => grantFromQueue_exclusive g rest rfl, fun a d rest x => ?_, fun a d rest => ?_⟩⟩
  · rw [expireZone_of_last hs hr (Nat.le_refl 1)]
    exact ⟨rfl, rfl, rfl⟩
  · rw [grantFromQueue_shared g rest rfl]
    refine ⟨rfl, rfl, rfl, (mem_runStations _ x).trans ?_⟩
    rw [List.exists_mem_cons_iff, eq_comm]
    rfl
  · rw [grantFromQueue_shared g rest rfl]
    obtain ⟨hstart, hrun⟩ := runRemaining_largest
      (⟨a, .shared, d⟩ :: rest.takeWhile isShared) (durationValue d)
    refine ⟨_, rfl, hstart, fun w hw => hrun w (List.mem_cons_of_mem _ hw), ?_⟩
    rcases runRemaining_attained (⟨a, .shared, d⟩ :: rest.takeWhile isShared) (durationValue d) with
      h | ⟨w, hw, h⟩
    · exact .inl h
    · rcases List.mem_cons.mp hw with rfl | hw
      · exact .inl h
      · exact .inr ⟨w, hw, h⟩

/-- Settles O49: the rules of the zone entry, each in its own cases. -/
theorem zoneRulesByCase : Obligations.ZoneRulesByCase := by
  refine ⟨fun e s m d w => ⟨claim_known m d w, fun hold hwait => ⟨claim_free hold hwait m d w,
    fun r hs hm hq hr => claim_join hold hwait d w hs hm hq hr,
    claim_held hold hwait d w⟩⟩, fun e s d => ⟨fun r hold hr => ?_, fun hold => ?_⟩,
    fun e s => ⟨fun hold hx => ?_, fun hold hlast => ?_, fun hold => ?_⟩,
    fun e s => ⟨fun hw => ?_, fun hw => ?_⟩, fun e => ⟨fun h => ?_,
    fun head rest r hs hq hm hr => sharedAdmission_run hs hq hm hr⟩,
    fun e t => ⟨fun _ hw => removeFromZone_of_not_waiter hw,
      fun hold hw => removeFromZone_of_waiter hold ((waits_iff _ _).mpr hw), fun hold hw => ?_⟩⟩
  · simp [renewZone, renewOutcome, hold, hr, raise, changedZone, plainOutcome]
  · simp [renewZone, renewOutcome, hold, unchangedZone, plainOutcome]
  · obtain ⟨x, hne, hx⟩ := hx
    have hleft : erase e.holders s ≠ 0 := ne_zero_of_mem (a := x) (by simp [hx, hne.symm])
    rw [releaseZone_of_holder hold, removeHolder_of_others hleft]
    exact ⟨rfl, rfl, by simp [releaseOutcome, hold, plainOutcome]⟩
  · rw [releaseZone_of_holder hold, removeHolder_of_last ((erase_eq_zero_iff _ _).mpr hlast)]
    exact ⟨rfl, by simp [releaseOutcome, hold, plainOutcome]⟩
  · rw [releaseZone_of_not_holder hold]
    exact ⟨rfl, by simp [releaseOutcome, hold, plainOutcome]⟩
  · have hw' : waits e.queue s = true := (waits_iff _ _).mpr hw
    exact ⟨cancelZone_of_waiter hw', by simp [cancelOutcome, hw', plainOutcome]⟩
  · have hw' : waits e.queue s = false := (waits_eq_false_iff _ _).mpr hw
    rw [cancelZone_of_not_waiter hw']
    exact ⟨rfl, by simp [cancelOutcome, hw', plainOutcome]⟩
  · rw [sharedAdmission_none h]
    exact ⟨rfl, rfl⟩
  · rw [removeFromZone_of_not_waiter hw, releaseZone_of_not_holder hold]
    rfl
end

section
/-! SUPPORT. The expiry pass of a cycle mark at one zone, and the statement about LEASE_EXPIRY settled. -/

namespace Sys2Proof.Machine

/-- A timely mark with no unjudged claim opens the new cycle at once (R136). -/
theorem State.takeMark_timely {s : State} (h : s.claimUnjudged = false) :
    s.takeMark .timely = s.beginCycle := by
  simp [State.takeMark, State.takeTimelyMark, h]

theorem State.beforePass_timely {s : State} (h : s.claimUnjudged = false) :
    s.beforePass .timely = s := by
  simp [State.beforePass, h]

/-- The records of a mark are those of its expiry pass. -/
theorem State.beginCycle_events (s : State) :
    s.beginCycle.events =
      (s.openCycle.zoneRecords s.zones
        (s.openCycle.zoneChanges (fun _ e => expireZone e))).foldl EventQueue.place s.events := rfl

/-- The row LEASE_EXPIRY at a lease that runs out is the mark that ends it (assumption 1). -/
theorem exec_leaseExpiry_timely {s : State} {z : ZoneId} (hr : s.running)
    (hc : s.claimUnjudged = false) (ha : s.zoneActive z = true)
    (hx : leaseRunsOut (s.zones.get z) = true) :
    exec (.leaseExpiry z .timely) s = .next s.beginCycle := by
  have hexp : s.expiresAt z .timely = true := by
    simp [State.expiresAt, State.beforePass_timely hc, ha, hx]
  show Host.Outcome.next (s.unlessReset (if s.expiresAt z .timely then s.takeMark .timely else s)) = _
  rw [State.unlessReset_of_running hr, if_pos hexp, State.takeMark_timely hc]

/-- R22: an expired lease of this station is among the records of the application. -/
theorem State.expire_mem_zoneRecords {s : State} {before : ZoneTable}
    {changes : Vector ZoneChange 64} {z : ZoneId} {a : Addr} (ho : s.own = some a)
    (hl : s.reportsLeases = true) (hm : mem (changes.get z).expired a = true) :
    EventRecord.expire z (before.get z).generation ∈ s.zoneRecords before changes := by
  refine List.mem_flatMap.mpr ⟨z, List.mem_finRange z, ?_⟩
  have : s.expireRecords z (before.get z) (changes.get z) =
      [.expire z (before.get z).generation] := by
    simp [State.expireRecords, ho, hl, hm]
  simp [this]

end Sys2Proof.Machine

open Sys2Proof Sys2Proof.Machine

/-- Settles O26: the row is the mark, whose expiry pass gives the zone to its queue and places EXPIRE. -/
theorem leaseExpiryEndsLease : Obligations.LeaseExpiryEndsLease := by
  intro z s hr hc ha hs hrem
  have hlast : expireZone (s.zones.get z) =
      { grantFromQueue (s.zones.get z).generation (s.zones.get z).queue with
        expired := (s.zones.get z).holders } := expireZone_of_last hs hrem (Nat.le_refl 1)
  have hentry : s.beginCycle.zones.get z =
      (grantFromQueue (s.zones.get z).generation (s.zones.get z).queue).entry := by
    rw [State.beginCycle_zones, if_pos ha, hlast]
  refine ⟨_, _, exec_leaseExpiry_timely hr hc ha (leaseRunsOut_of_last hs hrem (Nat.le_refl 1)),
    hentry, fun hq => ?_, State.beginCycle_events s, fun a ho hl hm => ?_⟩
  · rw [hentry, hq]
    rfl
  · refine State.expire_mem_zoneRecords (s := s.openCycle) (before := s.zones) ho hl ?_
    have hact : s.openCycle.zoneActive z = true := ha
    simp only [State.zoneChanges, tabulate_get, hact, if_true]
    show mem (expireZone (s.zones.get z)).expired a = true
    rw [hlast]
    exact hm
end

section
/-! SUPPORT. What an operation keeps of two forms, said once for each shared operation: the form of the 64 zone
entries (R1, R2), and what a station outside the cluster holds and may drive (R5, R56, R95, R115, R118, R138). -/

namespace Sys2Proof.Machine

/-! ## The form of the zone table -/

theorem zoneTable_wf_iff (t : ZoneTable) : ZoneTable.wf t = true ↔ ∀ z, EntryForm (t.get z) := by
  simp [ZoneTable.wf, allZones, ZoneEntry.wf_iff_form]

theorem cleared_wf : ZoneTable.wf ZoneTable.cleared = true :=
  (zoneTable_wf_iff _).mpr fun z => by
    have : ZoneTable.cleared.get z = ZoneEntry.cleared := by simp [ZoneTable.cleared, Vector.get]
    rw [this]
    exact freeZone_form 0

/-- R189: a block that passes its test carries an entry of its form. -/
theorem put_blockEntry_wf {t : ZoneTable} {content : List Byte} (h : ZoneTable.wf t = true) (z : ZoneId)
    (hc : zoneBlockValid content = true) : ZoneTable.wf (put t z (blockEntry content)) = true := by
  refine (zoneTable_wf_iff _).mpr fun y => ?_
  by_cases hy : z = y
  · subst hy
    rw [put_get_self, ← ZoneEntry.wf_iff_form]
    simp only [zoneBlockValid, Bool.and_eq_true] at hc
    exact hc.2
  · rw [put_get_of_ne _ _ hy]
    exact (zoneTable_wf_iff _).mp h y

/-- An application whose rule keeps the form of an entry keeps that of the table (R4). -/
theorem changedEntries_wf {s : State} {f : ZoneId → ZoneEntry → ZoneChange}
    (hf : ∀ z e, EntryForm e → EntryForm (f z e).entry) (h : ZoneTable.wf s.zones = true) :
    ZoneTable.wf (changedEntries (s.zoneChanges f)) = true := by
  refine (zoneTable_wf_iff _).mpr fun z => ?_
  have hz := (zoneTable_wf_iff _).mp h z
  simp only [changedEntries, State.zoneChanges, tabulate_get]
  split
  · exact hf z _ hz
  · exact hz

/-- An application that reaches no zone changes none (R4). -/
theorem changedEntries_of_inactive {s : State} (f : ZoneId → ZoneEntry → ZoneChange)
    (h : ∀ z, s.zoneActive z = false) : changedEntries (s.zoneChanges f) = s.zones := by
  refine vector_ext_get fun z => ?_
  simp [changedEntries, State.zoneChanges, h z, unchangedZone]

theorem StationState.isOutside_iff (st : StationState) :
    st.isOutside = true ↔ st = .offline ∨ st = .standby ∨ st = .seeking ∨ st = .faulted := by
  simp [StationState.isOutside, or_assoc]

/-- R118: of the states outside the cluster only SEEKING chooses a message. -/
theorem StationState.isOutside_of_chooses {st : StationState} (h : st.chooses = true)
    (hseek : st ≠ .seeking) : st.isOutside = false := by
  simp only [StationState.chooses, Bool.or_eq_true, beq_iff_eq] at h
  rcases h with ((h | h) | h) | h
  · exact absurd h hseek
  all_goals rw [h]; rfl

theorem State.zoneActive_of_outside {s : State} (h : s.station.isOutside = true) (z : ZoneId) :
    s.zoneActive z = false := by
  rcases (StationState.isOutside_iff _).mp h with hst | hst | hst | hst
  all_goals simp [State.zoneActive, State.certain, State.acquiring, hst]

theorem entryForm_ite {c : Prop} [Decidable c] {x y : ZoneChange} (hx : EntryForm x.entry)
    (hy : EntryForm y.entry) : EntryForm (if c then x else y).entry := by
  split
  · exact hx
  · exact hy

/-- R50 step 2: the zone effect of every message keeps the form of an entry. -/
theorem zoneEffect_form (r : Roster) (sender : Addr) (b : Body) (z : ZoneId) {e : ZoneEntry}
    (h : EntryForm e) : EntryForm (zoneEffect r sender b z e).entry := by
  cases b with
  | claim zone mode wait d =>
    simp only [zoneEffect]
    split
    · exact entryForm_ite (claimZone_form h _ _ _ _) h
    · exact h
  | renew zone d => exact entryForm_ite (renewZone_form h _ _) h
  | release zone => exact entryForm_ite (releaseZone_form h _) h
  | cancel zone => exact entryForm_ite (cancelZone_form h _) h
  | leave reason => exact entryForm_ite h (removeFromZone_form h _)
  | evict target reason => exact entryForm_ite h (removeFromZone_form h _)
  | found => exact h
  | joinReq => exact h
  | snap index content => exact h
  | note destination length data => exact h

/-! ## The form outside the cluster -/

/-- The part of a station that the two forms speak of. -/
structure Face where
  station : StationState
  zones   : ZoneTable
  roster  : Roster
  stance  : Stance
  flight  : Option InFlight
  slot    : Option SlotDrive

/-- That part of a state. -/
def State.face (s : State) : Face :=
  { station := s.station, zones := s.zones, roster := s.roster, stance := s.verdict.stance
    flight := s.selector.inFlight, slot := s.line.slotDrive }

/-- What a station outside the cluster holds and may drive. -/
structure Face.OutsideForm (f : Face) : Prop where
  zones  : f.station.isOutside = true → f.zones = ZoneTable.cleared
  roster : f.station.isOutside = true → f.roster = Roster.cleared
  stance : f.station.isOutside = true → f.stance = .notTaken
  flight : f.station.isOutside = true → f.station ≠ .seeking → f.flight = none
  slot   : f.station = .faulted → f.slot = none

/-- A station in the cluster has the form, whatever it holds. -/
theorem Face.OutsideForm.of_inside {f : Face} (h : f.station.isOutside = false) : f.OutsideForm where
  zones ho := by simp [h] at ho
  roster ho := by simp [h] at ho
  stance ho := by simp [h] at ho
  flight ho := by simp [h] at ho
  slot hf := by simp [hf, StationState.isOutside] at h

/-- The form as the model checks it. -/
theorem State.outsideForm_iff (s : State) :
    s.face.OutsideForm ↔ s.clearedOutside = true ∧ s.silentFits = true := by
  cases ho : s.station.isOutside with
  | false =>
    have hf : s.station ≠ .faulted := fun hf => by simp [hf, StationState.isOutside] at ho
    refine iff_of_true (Face.OutsideForm.of_inside ho) ?_
    simp [State.clearedOutside, State.silentFits, State.noStanceOutside, State.noFlightIdle,
      State.noSlotFaulted, ho, hf]
  | true =>
    simp only [State.clearedOutside, State.silentFits, State.noStanceOutside, State.noFlightIdle,
      State.noSlotFaulted, ho, Bool.not_true, Bool.false_or, Bool.or_false, Bool.or_eq_true,
      Bool.and_eq_true, beq_iff_eq, bne_iff_ne]
    constructor
    · rintro ⟨hz, hr, hv, hf, hd⟩
      exact ⟨⟨hz ho, hr ho⟩, ⟨hv ho, or_iff_not_imp_left.mpr (hf ho)⟩, not_or_of_imp hd⟩
    · rintro ⟨⟨hz, hr⟩, ⟨hv, hf⟩, hd⟩
      exact ⟨fun _ => hz, fun _ => hr, fun _ => hv, fun _ => or_iff_not_imp_left.mp hf,
        fun h => hd.resolve_left (not_not.mpr h)⟩

/-! ## What keeps both forms -/

/-- From one state to the other both forms are kept. -/
structure State.Keeps (s t : State) : Prop where
  zones   : ZoneTable.wf s.zones = true → ZoneTable.wf t.zones = true
  outside : s.face.OutsideForm → t.face.OutsideForm

namespace State.Keeps

variable {s t u : State}

theorem refl (s : State) : s.Keeps s := ⟨id, id⟩

theorem trans (h : s.Keeps t) (h' : t.Keeps u) : s.Keeps u :=
  ⟨h'.zones ∘ h.zones, h'.outside ∘ h.outside⟩

theorem wf_of_zones_eq (h : t.zones = s.zones) (hz : ZoneTable.wf s.zones = true) :
    ZoneTable.wf t.zones = true := by
  rwa [h]

/-- An operation on the rest of the station. -/
theorem of_face (h : t.face = s.face) : s.Keeps t where
  zones := wf_of_zones_eq (congrArg Face.zones h)
  outside ho := h ▸ ho

/-- An operation on the rest of the station, and then another. -/
theorem from_face (h : t.Keeps u) (hf : t.face = s.face) : s.Keeps u :=
  (of_face hf).trans h

/-- A change into a state of the cluster, or within one. -/
theorem of_inside (ht : t.station.isOutside = false)
    (hz : ZoneTable.wf s.zones = true → ZoneTable.wf t.zones = true) : s.Keeps t :=
  ⟨hz, fun _ => Face.OutsideForm.of_inside ht⟩

/-- A departure to a state outside the cluster with everything cleared (R109, R115). -/
theorem of_cleared {st : StationState} {slot : Option SlotDrive}
    (h : t.face = ⟨st, ZoneTable.cleared, Roster.cleared, .notTaken, none, slot⟩)
    (hs : st = .faulted → slot = none) : s.Keeps t where
  zones _ := by
    have : t.zones = ZoneTable.cleared := congrArg Face.zones h
    rw [this]
    exact cleared_wf
  outside _ := h ▸ ⟨fun _ => rfl, fun _ => rfl, fun _ => rfl, fun _ _ => rfl, hs⟩

/-- A change between states outside the cluster, which takes no message in flight out of SEEKING. -/
theorem of_station {st : StationState} (h : t.face = { s.face with station := st })
    (hs : s.station.isOutside = true) (hseek : s.station ≠ .seeking) (hst : st ≠ .faulted) :
    s.Keeps t where
  zones := wf_of_zones_eq (congrArg Face.zones h)
  outside ho := h ▸ ⟨fun _ => ho.zones hs, fun _ => ho.roster hs, fun _ => ho.stance hs,
    fun _ _ => ho.flight hs hseek, fun hf => absurd hf hst⟩

theorem of_cleared_roster (h : t.face = { s.face with roster := Roster.cleared }) : s.Keeps t where
  zones := wf_of_zones_eq (congrArg Face.zones h)
  outside ho := h ▸ ⟨ho.zones, fun _ => rfl, ho.stance, ho.flight, ho.slot⟩

theorem of_no_stance (h : t.face = { s.face with stance := .notTaken }) : s.Keeps t where
  zones := wf_of_zones_eq (congrArg Face.zones h)
  outside ho := h ▸ ⟨ho.zones, ho.roster, fun _ => rfl, ho.flight, ho.slot⟩

/-- A message is dropped; or one is put in flight where one was, or by a state that chooses one (R118). -/
theorem of_flight {m : Option InFlight} (h : t.face = { s.face with flight := m })
    (hm : m = none ∨ s.selector.inFlight ≠ none ∨ s.station.chooses = true) : s.Keeps t where
  zones := wf_of_zones_eq (congrArg Face.zones h)
  outside ho := h ▸ ⟨ho.zones, ho.roster, ho.stance, fun hout hseek => by
    have hidle : s.selector.inFlight = none := ho.flight hout hseek
    rcases hm with hm | hm | hm
    · exact hm
    · exact absurd hidle hm
    · exact absurd ((StationState.isOutside_of_chooses hm hseek).symm.trans hout) (by simp), ho.slot⟩

theorem of_slot {slot : Option SlotDrive} (h : t.face = { s.face with slot := slot })
    (hs : s.station = .faulted → slot = none) : s.Keeps t where
  zones := wf_of_zones_eq (congrArg Face.zones h)
  outside ho := h ▸ ⟨ho.zones, ho.roster, ho.stance, ho.flight, hs⟩

/-- An application to the zones it reaches (R4). -/
theorem of_changes {f : ZoneId → ZoneEntry → ZoneChange}
    (hf : ∀ z e, EntryForm e → EntryForm (f z e).entry)
    (h : t.face = { s.face with zones := changedEntries (s.zoneChanges f) }) : s.Keeps t where
  zones hz := by
    have : t.zones = changedEntries (s.zoneChanges f) := congrArg Face.zones h
    rw [this]
    exact changedEntries_wf hf hz
  outside ho := h ▸ ⟨fun hout => (changedEntries_of_inactive f (State.zoneActive_of_outside hout)).trans
    (ho.zones hout), ho.roster, ho.stance, ho.flight, ho.slot⟩

/-- An operation that takes place on a condition. -/
theorem ite {c : Prop} [Decidable c] (h : c → s.Keeps t) (h' : ¬ c → s.Keeps u) :
    s.Keeps (if c then t else u) := by
  split
  · exact h ‹_›
  · exact h' ‹_›

/-- An operation that takes place on a condition, or not at all. -/
theorem when {c : Prop} [Decidable c] (h : s.Keeps t) : s.Keeps (if c then t else s) :=
  ite (fun _ => h) (fun _ => refl s)

end State.Keeps

end Sys2Proof.Machine
end

section
/-! SUPPORT. The shared operations, the points of the line cycle and the commits keep the form of the zone table and
the form outside the cluster. -/

namespace Sys2Proof.Machine

open State.Keeps

/-! ## Operations on the rest of the station -/

theorem State.endEntry_face (s : State) (tag : Byte) (o : RequestOutcome) (position : Option Nat)
    (set : Option StationSet) (commit : Option (BitVec 16)) :
    (s.endEntry tag o position set commit).face = s.face := by
  unfold State.endEntry
  split <;> rfl

theorem State.runHoldOffs_face (s : State) : s.runHoldOffs.face = s.face := by
  unfold State.runHoldOffs
  split <;> rfl

theorem State.clearServed_face (s : State) : s.clearServed.face = s.face := by
  unfold State.clearServed
  split <;> rfl

theorem State.compareCopies_face (s : State) (a b : VerdictCopy) :
    (s.compareCopies a b).face = s.face := by
  unfold State.compareCopies
  split <;> rfl

theorem State.cleanSlot_face (s : State) : s.cleanSlot.face = s.face := by
  obtain ⟨run, wait, h⟩ := s.cleanSlot_shape
  rw [h]
  rfl

theorem State.settleRun_face (s : State) : s.settleRun.face = s.face := by
  obtain ⟨run, wait, h⟩ := s.settleRun_shape
  rw [h]
  rfl

theorem State.countSlots_face (s : State) (slots : Slots) : (s.countSlots slots).face = s.face := by
  obtain ⟨count, peers, h, -⟩ := s.countSlots_shape slots
  rw [h]
  rfl

theorem State.formDuties_face (s : State) : s.formDuties.face = s.face := by
  unfold State.formDuties
  split <;> rfl

theorem State.seekStep_face (s : State) : s.seekStep.face = s.face := by
  unfold State.seekStep
  split <;> rfl

theorem State.receive_face (s : State) (m : MessageBytes) : (s.receive m).face = s.face := by
  unfold State.receive
  dsimp only
  split <;> rfl

theorem State.returnEntry_face (s : State) (tag : Byte) : (s.returnEntry tag).face = s.face := by
  unfold State.returnEntry
  split
  · exact s.endEntry_face _ _ _ _ _
  · rfl

theorem State.countAttempt_face (s : State) (tag : Byte) (set : StationSet) :
    (s.countAttempt tag set).face = s.face := by
  unfold State.countAttempt
  split
  · split
    · exact s.endEntry_face _ _ _ _ _
    · split
      · exact s.endEntry_face _ _ _ _ _
      · rfl
  · rfl

theorem State.endCommitted_face (s : State) (tag : Byte) (o : ZoneOutcome) :
    (s.endCommitted tag o).face = s.face := by
  unfold State.endCommitted
  split <;> rfl

theorem State.endDuty_face (s : State) (source : Source) : (s.endDuty source).face = s.face := by
  cases source <;> rfl

theorem State.senderCommitted_face (s : State) (before : ZoneTable) (sender : Addr) (b : Body) :
    (s.senderCommitted before sender b).face = s.face := by
  unfold State.senderCommitted
  split
  · split
    · split
      · exact s.endCommitted_face _ _
      · rfl
      · exact s.endDuty_face _
      · exact s.endDuty_face _
    · rfl
  · rfl

theorem State.deliver_face (s : State) (sender : Addr) (b : Body) :
    (s.deliver sender b).face = s.face := by
  unfold State.deliver
  split
  · split <;> rfl
  all_goals rfl

/-! ## Changes of local state -/

theorem State.beginSeeking_keeps (s : State) : s.Keeps s.beginSeeking :=
  of_cleared_roster rfl

theorem State.depart_keeps (s : State) {st : StationState} (reason : StateReason)
    (h : st ≠ .faulted) : s.Keeps (s.depart st reason) :=
  of_cleared rfl (fun hf => absurd hf h)

theorem State.enterFaulted_keeps (s : State) (reason : StateReason) : s.Keeps (s.enterFaulted reason) :=
  of_cleared rfl (fun _ => rfl)

theorem State.enterDoubt_keeps (s : State) (reason : StateReason) : s.Keeps (s.enterDoubt reason) :=
  of_inside rfl id

theorem State.enterSynced_keeps (s : State) (reason : StateReason) : s.Keeps (s.enterSynced reason) :=
  of_inside rfl id

theorem State.enterJoining_keeps (s : State) : s.Keeps s.enterJoining :=
  of_inside rfl id

theorem State.foundCommitted_keeps (s : State) (own : Addr) : s.Keeps (s.foundCommitted own) :=
  of_inside rfl (fun _ => cleared_wf)

/-- R101, R110: from STANDBY on into SEEKING. -/
theorem State.seekFromStandby_keeps {s : State} (h : s.station = .standby) (reason : StateReason)
    (held : Nat) : s.Keeps (s.changeStation .seeking reason held).beginSeeking :=
  have hseek : s.Keeps (s.changeStation .seeking reason held) :=
    of_station (st := .seeking) rfl (by simp [h, StationState.isOutside]) (by simp [h]) (by simp)
  hseek.trans (State.beginSeeking_keeps _)

theorem State.arriveStandby_keeps (s : State) (reason : StateReason) :
    s.Keeps (s.arriveStandby reason) :=
  (s.depart_keeps reason (st := .standby) (by simp)).trans
    (when (State.seekFromStandby_keeps rfl _ _))

theorem State.backToSeeking_keeps (s : State) (reason : StateReason) :
    s.Keeps (s.backToSeeking reason) :=
  (s.depart_keeps reason (st := .seeking) (by simp)).trans (State.beginSeeking_keeps _)

theorem State.joinStall_keeps (s : State) : s.Keeps s.joinStall := by
  unfold State.joinStall
  split
  · exact s.backToSeeking_keeps _
  · exact s.arriveStandby_keeps _
  all_goals exact refl s

theorem State.countStall_keeps (s : State) : s.Keeps s.countStall :=
  of_face rfl

theorem State.stallStep_keeps (s : State) : s.Keeps s.stallStep :=
  ite (fun _ => s.countStall_keeps.trans (State.joinStall_keeps _)) (fun _ => when s.countStall_keeps)

theorem State.dropFlight_keeps (s : State) : s.Keeps s.dropFlight :=
  of_flight rfl (.inl rfl)

/-! ## Owned bits -/

theorem State.ownedMismatch_keeps (s : State) : s.Keeps s.ownedMismatch := by
  unfold State.ownedMismatch
  split
  · exact refl s
  · dsimp only
    split
    · exact (State.enterFaulted_keeps _ _).from_face rfl
    · exact of_face rfl

theorem State.readBackSlot_keeps (s : State) (slots : Slots) : s.Keeps (s.readBackSlot slots) := by
  unfold State.readBackSlot
  split
  · exact when (ite (fun _ => of_face s.cleanSlot_face) (fun _ => s.ownedMismatch_keeps))
  · exact refl s

theorem State.readBackVerdict_keeps (s : State) (a b : VerdictCopy) :
    s.Keeps (s.readBackVerdict a b) := by
  unfold State.readBackVerdict
  split
  · exact ite (fun _ => of_face s.settleRun_face) fun _ =>
      ite (fun _ => s.ownedMismatch_keeps) fun _ => ite (fun _ => refl s) (fun _ => of_face rfl)
  · exact refl s

theorem State.mismatchOwned_keeps (s : State) (bit : Fin 512) : s.Keeps (s.mismatchOwned bit) :=
  when ((State.ownedMismatch_keeps (s.misreadBit bit)).from_face rfl)

/-! ## Cycle marks -/

theorem State.expiryPass_keeps (s : State) : s.Keeps s.expiryPass :=
  of_changes (fun _ _ => expireZone_form) rfl

theorem State.openCycle_keeps (s : State) : s.Keeps s.openCycle :=
  of_no_stance rfl

/-- R97: a FAULTED station takes no slot at a mark. -/
theorem State.driveSlot_keeps (s : State) : s.Keeps s.driveSlot :=
  of_slot (slot := s.slotFromMark) rfl (fun h => by simp [State.slotFromMark, State.slotMode?, h])

theorem State.beginCycle_keeps (s : State) : s.Keeps s.beginCycle :=
  s.openCycle_keeps.trans ((State.expiryPass_keeps _).trans (State.driveSlot_keeps _))

theorem State.cutHoldOffs_face (s : State) : s.cutHoldOffs.face = s.face := by
  unfold State.cutHoldOffs
  split
  · rfl
  · exact s.runHoldOffs_face

theorem State.cutStall_keeps (s : State) : s.Keeps s.cutStall :=
  ite (fun _ => refl s) (fun _ => s.stallStep_keeps)

theorem State.doubtAtCut_keeps (s : State) : s.Keeps s.doubtAtCut :=
  (when s.countStall_keeps).trans (State.enterDoubt_keeps _ _)

theorem State.cutCycle_keeps (s : State) (bit : Fin 512) (claimStart : Level) :
    s.Keeps (s.cutCycle bit claimStart) := by
  have hreach : s.Keeps (s.reachCut bit claimStart).cutHoldOffs :=
    of_face (State.cutHoldOffs_face (s.reachCut bit claimStart))
  exact hreach.trans (ite (fun _ => State.doubtAtCut_keeps _) fun _ =>
    (State.dropFlight_keeps _).trans (State.cutStall_keeps _))

theorem State.takeEarlyMark_keeps (s : State) (bit : Fin 512) (claimStart : Level) :
    s.Keeps (s.takeEarlyMark bit claimStart) :=
  ite (fun _ => (s.cutCycle_keeps bit claimStart).trans (State.beginCycle_keeps _))
    (fun _ => s.beginCycle_keeps)

theorem State.takeTimelyMark_keeps (s : State) : s.Keeps s.takeTimelyMark :=
  ite (fun _ => (s.cutCycle_keeps _ _).trans (State.beginCycle_keeps _))
    (fun _ => s.beginCycle_keeps)

theorem State.takeMark_keeps (s : State) (m : Mark) : s.Keeps (s.takeMark m) := by
  cases m with
  | timely => exact s.takeTimelyMark_keeps
  | early bit claimStart => exact s.takeEarlyMark_keeps bit claimStart

theorem State.loseMark_keeps (s : State) : s.Keeps s.loseMark := by
  unfold State.loseMark
  split
  · exact refl s
  · have hover : s.Keeps
        (if s.countMarkFault.line.claimActive && s.countMarkFault.canDoubt then
          s.countMarkFault.enterDoubt .markFault
        else s.countMarkFault.dropFlight) :=
      from_face (ite (fun _ => State.enterDoubt_keeps _ _) (fun _ => State.dropFlight_keeps _)) rfl
    exact hover.trans (of_slot (slot := none) rfl (fun _ => rfl))

/-! ## The status point -/

theorem State.readStatus_keeps (s : State) (slots : Slots) : s.Keeps (s.readStatus slots) := by
  have hpoint : s.Keeps (s.makePoint .status 255) := of_face rfl
  refine hpoint.trans ((State.readBackSlot_keeps _ slots).trans (when ?_))
  exact of_face (State.countSlots_face _ slots)

theorem State.listenStep_keeps (s : State) (slots : Slots) : s.Keeps (s.listenStep slots) := by
  unfold State.listenStep
  split
  · exact when (ite (fun _ => s.enterFaulted_keeps _) (fun _ => of_face rfl))
  · exact refl s

theorem State.syncedStep_keeps (s : State) (slots : Slots) : s.Keeps (s.syncedStep slots) :=
  ite (fun _ => (of_face rfl).trans (State.enterDoubt_keeps _ _)) (fun _ => of_face rfl)

theorem State.actOnStatus_keeps (s : State) (slots : Slots) : s.Keeps (s.actOnStatus slots) := by
  unfold State.actOnStatus
  split
  · exact s.listenStep_keeps slots
  · exact of_face s.seekStep_face
  · exact s.syncedStep_keeps slots
  all_goals exact refl s

theorem State.takeStatus_keeps (s : State) (slots : Slots) : s.Keeps (s.takeStatus slots) :=
  when ((s.readStatus_keeps slots).trans (State.actOnStatus_keeps _ slots))

/-! ## The selection point and the claim segment -/

theorem State.chooses_of_choice {s : State} {source : Source} (h : s.choice = some source) :
    s.station.chooses = true := by
  unfold State.choice at h
  split at h
  · assumption
  · cases h

theorem State.offerChoice_keeps (s : State) : s.Keeps s.offerChoice := by
  unfold State.offerChoice
  split
  · rename_i source own hc _
    exact of_flight (m := some (s.formFlight own source)) rfl
      (.inr (.inr (State.chooses_of_choice hc)))
  · exact refl s

theorem State.takeSelection_keeps (s : State) : s.Keeps s.takeSelection := by
  refine when (trans ?_ (State.offerChoice_keeps _))
  exact of_face (State.formDuties_face (s.makePoint .selection 260))

theorem State.giveUpClaim_keeps (s : State) : s.Keeps s.giveUpClaim := by
  unfold State.giveUpClaim
  split
  · have hdrop : s.Keeps (s.setSelector { s.selector with inFlight := none }) :=
      of_flight rfl (.inl rfl)
    dsimp only
    split
    · exact hdrop.trans (of_face (State.returnEntry_face _ _))
    · exact hdrop
    · exact hdrop
  · exact refl s

theorem State.loseClaim_keeps (s : State) : s.Keeps s.loseClaim :=
  (State.giveUpClaim_keeps s.countArbitrationLoss).from_face rfl

theorem State.faultClaim_keeps (s : State) : s.Keeps s.faultClaim :=
  (State.giveUpClaim_keeps s.countMismatch).from_face rfl

theorem State.judgeClaim_keeps (s : State) (read : ClaimRead) : s.Keeps (s.judgeClaim read) := by
  unfold State.judgeClaim
  split
  · rename_i m own hm _
    obtain ⟨hflight, -⟩ := State.contending_some hm
    split
    · exact of_flight (m := some { m with claim := .won }) rfl (.inr (.inl (by simp [hflight])))
    · exact s.loseClaim_keeps
    · exact s.faultClaim_keeps
  · exact refl s

theorem State.takeClaim_keeps (s : State) (read : ClaimRead) : s.Keeps (s.takeClaim read) := by
  have hheld : s.Keeps ((s.makePoint .claim 266).holdClaim read) := of_face rfl
  have hjudged := hheld.trans (State.judgeClaim_keeps _ read)
  exact when (ite (fun _ => hjudged.trans (of_face (State.settleRun_face _))) (fun _ => hjudged))

theorem State.loseAt_keeps (s : State) (bit : Fin 7) : s.Keeps (s.loseAt bit) := by
  unfold State.loseAt
  split
  · exact when ((State.loseClaim_keeps (s.misreadBit (claimLineBit bit))).from_face rfl)
  · exact refl s

theorem State.faultAt_keeps (s : State) (bit : Fin 7) : s.Keeps (s.faultAt bit) := by
  unfold State.faultAt
  split
  · exact when ((State.faultClaim_keeps (s.misreadBit (claimLineBit bit))).from_face rfl)
  · exact refl s

/-! ## The message segment -/

theorem State.mismatchMessage_keeps {s : State} {m : InFlight} (h : s.selector.inFlight = some m)
    (bit : Fin 160) : s.Keeps (s.mismatchMessage m bit) :=
  of_flight (m := some { m with mismatchFrom := some bit }) rfl (.inr (.inl (by simp [h])))

theorem State.mismatchAt_keeps (s : State) (bit : Fin 160) : s.Keeps (s.mismatchAt bit) := by
  unfold State.mismatchAt
  split
  · rename_i m hm
    obtain ⟨hflight, -, -⟩ := State.cleanSender_some hm
    exact when (from_face
      (State.mismatchMessage_keeps (s := s.misreadBit (messageLineBit bit)) hflight bit) rfl)
  · exact refl s

theorem State.readBackMessage_keeps (s : State) (bytes : MessageBytes) :
    s.Keeps (s.readBackMessage bytes) := by
  unfold State.readBackMessage
  split
  · rename_i m hm
    obtain ⟨hflight, -, -⟩ := State.cleanSender_some hm
    split
    · exact State.mismatchMessage_keeps hflight _
    · exact refl s
  · exact refl s

/-- R43: outside the cluster no stance is taken. -/
theorem State.stanceOn_of_outside {s : State} (h : s.station.isOutside = true) (m : MessageBytes)
    (intact : Bool) : s.stanceOn m intact = .notTaken := by
  rcases (StationState.isOutside_iff _).mp h with hst | hst | hst | hst
  all_goals simp [State.stanceOn, hst]

theorem State.takeStance_keeps (s : State) (m : MessageBytes) (intact : Bool) :
    s.Keeps (s.takeStance m intact) := by
  rw [State.takeStance_shape]
  cases ho : s.station.isOutside with
  | true =>
    refine of_face ?_
    simp [State.stanceOn_of_outside ho, State.face, State.station]
  | false => exact of_inside ho id

theorem State.takeMessage_keeps (s : State) (m : MessageBytes) : s.Keeps (s.takeMessage m) := by
  have hpoint : s.Keeps (s.makePoint .message 431) := of_face rfl
  have hread := hpoint.trans (State.readBackMessage_keeps _ m)
  exact when (ite (fun _ => hread.trans (trans (of_face (State.receive_face _ m))
    (State.takeStance_keeps _ m _))) (fun _ => hpoint))

/-! ## Commits -/

/-- An application is the roster effect and the zone effect; the reports leave both as they are. -/
theorem State.applyMessage_face (s : State) (sender : Addr) (b : Body) :
    (s.applyMessage sender b).face =
      { s.face with
        zones := changedEntries (s.zoneChanges (zoneEffect s.roster sender b))
        roster := rosterEffect s.roster.advance sender b } :=
  (State.deliver_face _ sender b).trans (State.senderCommitted_face _ s.zones sender b)

section
variable {s : State} (h : s.station.isOutside = false)
include h

theorem State.applyMessage_keeps (sender : Addr) (b : Body) : s.Keeps (s.applyMessage sender b) := by
  have hface := s.applyMessage_face sender b
  refine of_inside ((congrArg (fun f => f.station.isOutside) hface).trans h) fun hz => ?_
  have hzones : (s.applyMessage sender b).zones = _ := congrArg Face.zones hface
  rw [hzones]
  exact changedEntries_wf (fun z _ => zoneEffect_form s.roster sender b z) hz

theorem State.commitRoster_keeps (sender : Addr) (b : Body) : s.Keeps (s.commitRoster sender b) :=
  of_inside h id

theorem State.loadRoster_keeps (content : List Byte) : s.Keeps (s.loadRoster content) :=
  when (of_inside h id)

theorem State.loadZone_keeps (index : Nat) (content : List Byte) :
    s.Keeps (s.loadZone index content) := by
  unfold State.loadZone
  split
  · exact ite (fun hc => of_inside h fun hz => put_blockEntry_wf hz _ hc) (fun _ => refl s)
  · exact refl s

omit h in
theorem State.loadZone_station (s : State) (index : Nat) (content : List Byte) :
    (s.loadZone index content).station = s.station := by
  unfold State.loadZone
  split
  · split <;> rfl
  · rfl

omit h in
theorem State.completeTransfer_keeps (s : State) : s.Keeps s.completeTransfer := by
  unfold State.completeTransfer
  refine ite (fun _ => ?_) (fun _ => refl s)
  split
  · exact s.enterSynced_keeps _
  · exact of_face rfl
  all_goals exact refl s

theorem State.nextBlock_keeps (sender : Addr) (index : Nat) (content : List Byte) :
    s.Keeps (s.nextBlock sender index content) := by
  have hin : (s.loadZone index content).station.isOutside = false := by
    rw [s.loadZone_station]
    exact h
  have hroster : (s.loadZone index content).Keeps
      (((s.loadZone index content).setSnapshot
        { (s.loadZone index content).snapshot with loaded := index + 1 }).commitRoster sender
        (.snap (natByte index) content)) := of_inside hin id
  exact (State.loadZone_keeps h index content).trans
    (hroster.trans (State.completeTransfer_keeps _))

theorem State.repeatBlock_keeps (index : Nat) (content : List Byte) :
    s.Keeps (s.repeatBlock index content) :=
  ite (fun _ => State.loadRoster_keeps h content) (fun _ => State.loadZone_keeps h index content)

theorem State.joinerSnap_keeps (sender : Addr) (index : Nat) (content : List Byte) :
    s.Keeps (s.joinerSnap sender index content) := by
  refine ite (fun _ => ite (fun _ => ?own) (fun _ => ?other)) (fun _ => ?noRoster)
  case own =>
    exact ite (fun _ => State.nextBlock_keeps h sender index content) fun _ =>
      ite (fun _ => State.repeatBlock_keeps h index content) (fun _ => s.enterDoubt_keeps _)
  case other =>
    exact ite (fun _ => State.commitRoster_keeps h sender _) fun _ =>
      ite (fun _ => State.loadRoster_keeps h content) (fun _ => s.enterDoubt_keeps _)
  case noRoster =>
    unfold State.firstBlock
    split
    · exact when (State.loadRoster_keeps h content)
    · exact refl s

omit h in
theorem State.leaveDissolved_keeps (s : State) (before : Roster) :
    s.Keeps (s.leaveDissolved before) := by
  unfold State.leaveDissolved
  refine ite (fun _ => ?_) (fun _ => refl s)
  split
  · exact s.backToSeeking_keeps _
  · exact s.arriveStandby_keeps _
  all_goals exact refl s

theorem State.plainCommit_keeps (sender : Addr) (b : Body) : s.Keeps (s.plainCommit sender b) :=
  ite (fun _ => when ((State.applyMessage_keeps h sender b).trans (State.leaveDissolved_keeps _ _)))
    (fun _ => State.applyMessage_keeps h sender b)

omit h in
theorem State.evicted_keeps (s : State) (reason : Byte) : s.Keeps (s.evicted reason) :=
  (State.arriveStandby_keeps _ .evicted).from_face rfl

theorem State.clusterCommit_keeps (sender : Addr) (b : Body) : s.Keeps (s.clusterCommit sender b) := by
  unfold State.clusterCommit
  split
  · exact refl s
  · exact ite (fun _ => s.arriveStandby_keeps _) (fun _ => State.plainCommit_keeps h sender _)
  · exact ite (fun _ => s.evicted_keeps _) (fun _ => State.plainCommit_keeps h sender _)
  · exact ite (fun _ => State.joinerSnap_keeps h sender _ _)
      (fun _ => State.applyMessage_keeps h sender _)
  all_goals exact State.plainCommit_keeps h sender _

end

theorem State.doubtCommit_keeps (s : State) (sender : Addr) (b : Body) :
    s.Keeps (s.doubtCommit sender b) := by
  unfold State.doubtCommit
  split
  · exact when (s.arriveStandby_keeps _)
  · exact when (s.evicted_keeps _)
  all_goals exact refl s

theorem State.seekingCommit_keeps (s : State) (b : Body) : s.Keeps (s.seekingCommit b) := by
  unfold State.seekingCommit
  split
  · exact s.foundCommitted_keeps _
  · exact s.enterJoining_keeps
  · exact refl s

/-! ## The verdict point -/

theorem State.readVerdict_keeps (s : State) (a b : VerdictCopy) : s.Keeps (s.readVerdict a b) := by
  have hpoint : s.Keeps (s.makePoint .verdict 499) := of_face rfl
  refine hpoint.trans (State.Keeps.trans (when ?_) (State.readBackVerdict_keeps _ a b))
  exact of_face rfl

theorem State.reachVerdict_keeps (s : State) (a b : VerdictCopy) : s.Keeps (s.reachVerdict a b) :=
  (s.readVerdict_keeps a b).trans (of_face ((State.clearServed_face _).trans
    ((State.runHoldOffs_face _).trans (State.compareCopies_face _ a b))))

theorem State.damagedCommit_keeps (s : State) : s.Keeps s.damagedCommit := by
  unfold State.damagedCommit
  split
  · exact s.foundCommitted_keeps _
  · exact when (s.arriveStandby_keeps _)
  · exact when (s.enterDoubt_keeps _)

theorem State.intactCommit_keeps (s : State) (sender : Addr) (b : Body) :
    s.Keeps (s.intactCommit sender b) := by
  unfold State.intactCommit
  split
  case h_1 => exact s.seekingCommit_keeps b
  case h_2 => exact s.doubtCommit_keeps sender b
  case h_3 hst => exact State.clusterCommit_keeps (by rw [hst]; rfl) sender b
  case h_4 hst => exact State.clusterCommit_keeps (by rw [hst]; rfl) sender b
  case h_5 hst => exact State.clusterCommit_keeps (by rw [hst]; rfl) sender b
  all_goals exact refl s

theorem State.onCommitted_keeps (s : State) : s.Keeps s.onCommitted := by
  have hcount : s.Keeps s.countCommit := of_face rfl
  unfold State.onCommitted
  split
  · exact hcount.trans (State.intactCommit_keeps _ _ _)
  · exact hcount.trans (State.damagedCommit_keeps _)

theorem State.onObjected_keeps (s : State) (source : Source) (set : StationSet) :
    s.Keeps (s.onObjected source set) := by
  unfold State.onObjected
  split
  · exact of_face (s.endEntry_face _ _ _ _ _)
  · exact s.arriveStandby_keeps _
  all_goals exact of_face rfl

theorem State.onLacking_keeps (s : State) (source : Source) (set : StationSet) :
    s.Keeps (s.onLacking source set) := by
  cases source with
  | entry tag => exact of_face (s.countAttempt_face tag set)
  | urgent duty => exact refl s
  | sync duty => exact refl s

theorem State.onNotCommitted_keeps (s : State) (a b : VerdictCopy) :
    s.Keeps (s.onNotCommitted a b) := by
  unfold State.onNotCommitted
  split
  · exact ite (fun _ => s.onLacking_keeps _ _) (fun _ => s.onObjected_keeps _ _)
  · exact refl s

theorem State.judge_keeps (s : State) (a b : VerdictCopy) : s.Keeps (s.judge a b) := by
  unfold State.judge
  split
  · exact s.onCommitted_keeps
  · exact s.onNotCommitted_keeps a b
  · exact when (s.enterDoubt_keeps _)
  · exact refl s

theorem State.updateStall_keeps (s before : State) (a b : VerdictCopy) :
    s.Keeps (s.updateStall before a b) :=
  when (ite (fun _ => of_face rfl) fun _ =>
    ite (fun _ => s.stallStep_keeps) (fun _ => s.countStall_keeps))

theorem State.takeVerdict_keeps (s : State) (a b : VerdictCopy) : s.Keeps (s.takeVerdict a b) :=
  when ((s.reachVerdict_keeps a b).trans ((State.judge_keeps _ a b).trans
    ((State.updateStall_keeps _ _ a b).trans (State.dropFlight_keeps _))))

theorem State.takeEnd_keeps (s : State) (finish : CycleEnd) : s.Keeps (s.takeEnd finish) := by
  cases finish with
  | verdict a b => exact s.takeVerdict_keeps a b
  | cut bit claimStart => exact s.takeEarlyMark_keeps bit claimStart

/-! ## Bit times -/

theorem State.pointAfter_keeps (s : State) (n : Fin 512) : s.Keeps (s.pointAfter n) :=
  ite (fun _ => s.takeVerdict_keeps _ _) fun _ =>
    ite (fun _ => s.takeMessage_keeps _) fun _ =>
      ite (fun _ => s.takeClaim_keeps _) fun _ => when (s.takeStatus_keeps _)

theorem bitTime_keeps (s : State) : s.Keeps (bitTime s) := by
  unfold bitTime
  refine ite (fun _ => refl s) fun _ => ?_
  split
  · exact refl s
  · rename_i n _
    have hafter : s.Keeps ((s.pointAfter n).setPosition (bitAfter n)) :=
      (s.pointAfter_keeps n).trans (of_face rfl)
    exact hafter.trans (when (State.takeSelection_keeps _))
  · exact of_face rfl
  · exact ite (fun _ => of_face rfl) (fun _ => s.loseMark_keeps)

end Sys2Proof.Machine
end

section
/-! SUPPORT. The commands, the rows and the step keep both forms; the statements about the form of the zone table and
about the station outside the cluster settled. -/

namespace Sys2Proof.Machine

open State.Keeps

/-! ## The host commands -/

theorem State.configure_keeps (s : State) (address silenceLimit formationWait retryLimit rejoin : Byte) :
    s.Keeps (s.configure address silenceLimit formationWait retryLimit rejoin).state := by
  unfold State.configure
  split
  · split <;> exact of_face rfl
  · exact refl s

/-- R99: from OFFLINE, whose slot of before a STOP ends. -/
theorem State.startStation_keeps (s : State) : s.Keeps s.startStation.state := by
  unfold State.startStation
  split
  · rename_i h
    have hslot : s.Keeps (s.setLine { s.line with slotDrive := none }) :=
      of_slot (slot := none) rfl (fun _ => rfl)
    have hst : (s.setLine { s.line with slotDrive := none }).station = .offline := h.1
    exact hslot.trans (of_station (st := .standby) rfl (by rw [hst]; rfl) (by simp [hst]) (by simp))
  · exact refl s

/-- R100: from STANDBY or FAULTED, where no message is in flight. -/
theorem State.stopStation_keeps (s : State) : s.Keeps s.stopStation.state := by
  unfold State.stopStation
  split
  · rename_i h
    have hgo : s.Keeps s.goOffline := by
      rcases h with h | h
      all_goals exact of_station (st := .offline) rfl (by rw [h]; rfl) (by simp [h]) (by simp)
    exact hgo
  · exact refl s

theorem State.joinStation_keeps (s : State) : s.Keeps s.joinStation.state := by
  unfold State.joinStation
  split
  · rename_i h
    exact State.seekFromStandby_keeps h.1 _ _
  · exact refl s

theorem State.leaveCluster_keeps (s : State) : s.Keeps s.leaveCluster.state := by
  have hleave : s.Keeps s.beginLeaving := of_inside rfl id
  unfold State.leaveCluster
  split
  · split
    · exact refl s
    · exact s.arriveStandby_keeps _
  · exact hleave
  · exact hleave
  all_goals exact refl s

theorem State.takeRequest_keeps (s : State) (tag : Byte) (request : Option Request) :
    s.Keeps (s.takeRequest tag request).state := by
  refine of_face ?_
  unfold State.takeRequest
  repeat' split
  all_goals rfl

theorem State.recall_keeps (s : State) (tag : Byte) : s.Keeps (s.recall tag).state := by
  refine of_face ?_
  unfold State.recall
  repeat' split
  all_goals rfl

theorem State.writeVeto_keeps (s : State) (zone flag : Byte) : s.Keeps (s.writeVeto zone flag).state := by
  unfold State.writeVeto
  split <;> exact of_face rfl

theorem State.writeWatch_keeps (s : State) (zone flag : Byte) :
    s.Keeps (s.writeWatch zone flag).state := by
  unfold State.writeWatch
  split <;> exact of_face rfl

theorem State.readZone_keeps (s : State) (zone : Byte) : s.Keeps (s.readZone zone).state := by
  unfold State.readZone
  split
  · split <;> exact refl s
  · exact refl s

theorem State.readRoster_keeps (s : State) : s.Keeps s.readRoster.state := by
  unfold State.readRoster
  split <;> exact refl s

theorem State.fetchEvent_keeps (s : State) : s.Keeps s.fetchEvent.state := by
  unfold State.fetchEvent
  split <;> exact of_face rfl

theorem State.ackEvent_keeps (s : State) (sequence : Byte) : s.Keeps (s.ackEvent sequence).state := by
  unfold State.ackEvent
  split
  · split <;> exact of_face rfl
  · exact refl s

/-- R188: the RESET command clears the blocks and leaves OFFLINE. -/
theorem State.resetBlocks_keeps (s : State) : s.Keeps s.resetBlocks :=
  of_cleared (st := .offline) (slot := none) rfl (fun _ => rfl)

theorem State.powerReset_keeps (s : State) : s.Keeps s.powerReset :=
  of_cleared (st := .offline) (slot := none) rfl (fun _ => rfl)

/-- Whatever the parameter bytes, a command taken keeps both forms. -/
theorem runCommand_keeps (c : HostCommand) (p : List Byte) (s : State) :
    s.Keeps (runCommand c p s).state := by
  match c with
  | .configure => exact s.configure_keeps _ _ _ _ _
  | .start => exact s.startStation_keeps
  | .stop => exact s.stopStation_keeps
  | .join => exact s.joinStation_keeps
  | .leave => exact s.leaveCluster_keeps
  | .claim => exact s.takeRequest_keeps _ _
  | .renew => exact s.takeRequest_keeps _ _
  | .release => exact s.takeRequest_keeps _ _
  | .cancel => exact s.takeRequest_keeps _ _
  | .note => exact s.takeRequest_keeps _ _
  | .recall => exact s.recall_keeps _
  | .veto => exact s.writeVeto_keeps _ _
  | .watch => exact s.writeWatch_keeps _ _
  | .readZone => exact s.readZone_keeps _
  | .readRoster => exact s.readRoster_keeps
  | .readStation => exact refl s
  | .fetchEvent => exact s.fetchEvent_keeps
  | .ackEvent => exact s.ackEvent_keeps _
  | .reset => exact s.resetBlocks_keeps

/-! ## The port -/

theorem State.takeCommand_keeps {s : State} (c : PortCommand) (params : List Byte)
    {run : State → Taken} (h : s.Keeps (run s).state) : s.Keeps (s.takeCommand c params run) := by
  unfold State.takeCommand
  split
  · exact h.trans (of_face rfl)
  · exact refl s

theorem State.csFalls_face (s : State) : s.csFalls.face = s.face := by
  unfold State.csFalls
  repeat' split
  all_goals rfl

theorem State.csRises_face (s : State) : s.csRises.face = s.face := by
  unfold State.csRises
  split <;> rfl

theorem State.replyByte_face (s : State) : s.replyByte.face = s.face := by
  unfold State.replyByte
  split <;> rfl

theorem State.commandByte_keeps (s : State) (code : Byte) : s.Keeps (s.commandByte code) := by
  unfold State.commandByte
  split
  · exact ite (fun _ => State.takeCommand_keeps _ _ (runCommand_keeps _ _ s)) (fun _ => of_face rfl)
  · exact State.takeCommand_keeps _ _ (refl s)

theorem State.parameterByte_keeps (s : State) (value : Byte) : s.Keeps (s.parameterByte value) := by
  unfold State.parameterByte
  split
  · exact ite (fun _ => State.takeCommand_keeps _ _ (runCommand_keeps _ _ s)) (fun _ => of_face rfl)
  · exact refl s

/-! ## The rows and the step -/

theorem State.unlessReset_keeps {s t : State} (h : s.Keeps t) : s.Keeps (s.unlessReset t) :=
  ite (fun _ => refl s) (fun _ => h)

/-- Every row answers with a state that keeps both forms. -/
theorem exec_keeps (i : Instr) (s : State) : ∃ t, exec i s = .next t ∧ s.Keeps t := by
  have command {c : PortCommand} {params : List Byte} {run : State → Taken}
      (h : s.Keeps (run s).state) : s.Keeps (s.unlessReset (s.takeCommand c params run)) :=
    State.unlessReset_keeps (State.takeCommand_keeps c params h)
  have point {t : State} (h : s.Keeps t) : s.Keeps (s.unlessReset t) := State.unlessReset_keeps h
  have limit {c : Prop} [Decidable c] {t : State} (h : s.Keeps t) :
      s.Keeps (s.unlessReset (if c then t else s)) := State.unlessReset_keeps (when h)
  match i with
  | .hardwareReset => exact ⟨_, rfl, s.powerReset_keeps⟩
  | .rstRelease => exact ⟨_, rfl, of_face rfl⟩
  | .csFall => exact ⟨_, rfl, of_face s.csFalls_face⟩
  | .csRise => exact ⟨_, rfl, of_face s.csRises_face⟩
  | .unknownCommand code => exact ⟨_, rfl, limit (State.takeCommand_keeps _ _ (refl s))⟩
  | .configure a sl fw rl rj => exact ⟨_, rfl, command (s.configure_keeps a sl fw rl rj)⟩
  | .start => exact ⟨_, rfl, command s.startStation_keeps⟩
  | .stop => exact ⟨_, rfl, command s.stopStation_keeps⟩
  | .join => exact ⟨_, rfl, command s.joinStation_keeps⟩
  | .leave => exact ⟨_, rfl, command s.leaveCluster_keeps⟩
  | .claim tag zone mode wait d => exact ⟨_, rfl, command (s.takeRequest_keeps tag _)⟩
  | .renew tag zone d => exact ⟨_, rfl, command (s.takeRequest_keeps tag _)⟩
  | .release tag zone => exact ⟨_, rfl, command (s.takeRequest_keeps tag _)⟩
  | .cancel tag zone => exact ⟨_, rfl, command (s.takeRequest_keeps tag _)⟩
  | .note tag destination length data =>
    exact ⟨_, rfl, limit (State.takeCommand_keeps _ _ (s.takeRequest_keeps tag _))⟩
  | .recall tag => exact ⟨_, rfl, command (s.recall_keeps tag)⟩
  | .veto zone flag => exact ⟨_, rfl, command (s.writeVeto_keeps zone flag)⟩
  | .watch zone flag => exact ⟨_, rfl, command (s.writeWatch_keeps zone flag)⟩
  | .readZone zone => exact ⟨_, rfl, command (s.readZone_keeps zone)⟩
  | .readRoster => exact ⟨_, rfl, command s.readRoster_keeps⟩
  | .readStation => exact ⟨_, rfl, command (run := State.readStation) (refl s)⟩
  | .fetchEvent => exact ⟨_, rfl, command s.fetchEvent_keeps⟩
  | .ackEvent sequence => exact ⟨_, rfl, command (s.ackEvent_keeps sequence)⟩
  | .reset => exact ⟨_, rfl, command (run := fun t => t.resetBlocks.done []) s.resetBlocks_keeps⟩
  | .cycleMark => exact ⟨_, rfl, point s.takeTimelyMark_keeps⟩
  | .leaseExpiry zone mark => exact ⟨_, rfl, limit (s.takeMark_keeps mark)⟩
  | .earlyMark bit claimStart => exact ⟨_, rfl, point (s.takeEarlyMark_keeps bit claimStart)⟩
  | .lostMark => exact ⟨_, rfl, point s.loseMark_keeps⟩
  | .statusPoint slots => exact ⟨_, rfl, point (s.takeStatus_keeps slots)⟩
  | .listenCheckPassed slots => exact ⟨_, rfl, limit (s.takeStatus_keeps slots)⟩
  | .formationWaitExpiry slots => exact ⟨_, rfl, limit (s.takeStatus_keeps slots)⟩
  | .evictionCandidate slots => exact ⟨_, rfl, limit (s.takeStatus_keeps slots)⟩
  | .divergence slots => exact ⟨_, rfl, limit (s.takeStatus_keeps slots)⟩
  | .selectionPoint => exact ⟨_, rfl, point s.takeSelection_keeps⟩
  | .arbitrationLoss bit => exact ⟨_, rfl, point (s.loseAt_keeps bit)⟩
  | .claimReadbackFault bit => exact ⟨_, rfl, point (s.faultAt_keeps bit)⟩
  | .claimSegment read => exact ⟨_, rfl, point (s.takeClaim_keeps read)⟩
  | .messageReadbackMismatch bit => exact ⟨_, rfl, point (s.mismatchAt_keeps bit)⟩
  | .messageSegment bytes => exact ⟨_, rfl, point (s.takeMessage_keeps bytes)⟩
  | .ownedBitMismatch bit => exact ⟨_, rfl, point (s.mismatchOwned_keeps bit)⟩
  | .readbackFault bit => exact ⟨_, rfl, limit (s.mismatchOwned_keeps bit)⟩
  | .verdictPoint a b => exact ⟨_, rfl, point (s.takeVerdict_keeps a b)⟩
  | .retryLimitReached a b => exact ⟨_, rfl, limit (s.takeVerdict_keeps a b)⟩
  | .joinStall finish => exact ⟨_, rfl, limit (s.takeEnd_keeps finish)⟩
  | .holdOffExpiry finish => exact ⟨_, rfl, limit (s.takeEnd_keeps finish)⟩
  | .commandByteComplete code => exact ⟨_, rfl, limit (s.commandByte_keeps code)⟩
  | .parameterByteComplete value => exact ⟨_, rfl, point (s.parameterByte_keeps value)⟩
  | .replyByteComplete => exact ⟨_, rfl, point (of_face s.replyByte_face)⟩

theorem step_keeps {s t : State} (h : step s = .next t) : s.Keeps t := by
  cases hp : s.pending with
  | nil =>
    rw [step_of_empty hp] at h
    exact Host.Outcome.next.inj h ▸ bitTime_keeps s
  | cons c rest =>
    rw [step_of_cons hp] at h
    obtain ⟨u, hu, hk⟩ := exec_keeps c (s.setPending rest)
    rw [hu] at h
    exact Host.Outcome.next.inj h ▸ hk.from_face rfl

/-! ## The bits driven outside the cluster -/

/-- With no message in flight and no stance, a bit outside the slot being driven is recessive. -/
theorem State.lineBit_recessive {s : State} (own : Addr) {bit : Fin 512}
    (hv : s.verdict.stance = .notTaken) (hf : s.selector.inFlight = none)
    (hd : ∀ d, s.line.slotDrive = some d → isSlotBit bit d.address = false) :
    s.lineBit own bit = true := by
  unfold State.lineBit
  simp only [hv, hf]
  split
  · split
    · simp [SlotDrive.lineBit, hd _ ‹_›]
    · rfl
  · repeat' split
    all_goals rfl

theorem State.lineBit_of_dominant {s : State} {bit : Fin 512} (h : s.pldDominant bit = true) :
    ∃ own, s.lineBit own bit = false := by
  unfold State.pldDominant at h
  split at h
  · simp only [Bool.and_eq_true, Bool.not_eq_true'] at h
    exact ⟨_, h.2⟩
  · cases h

/-- In OFFLINE, STANDBY and FAULTED a dominant bit is one of the slot being driven. -/
theorem State.slot_of_dominant {s : State} {bit : Fin 512} (hs : s.silentFits = true)
    (hout : s.station.isOutside = true) (hseek : s.station ≠ .seeking)
    (h : s.pldDominant bit = true) :
    ∃ d, s.line.slotDrive = some d ∧ isSlotBit bit d.address = true := by
  simp only [State.silentFits, Bool.and_eq_true] at hs
  obtain ⟨⟨hv, hf⟩, -⟩ := hs
  have hv : s.verdict.stance = .notTaken := by simpa [State.noStanceOutside, hout] using hv
  have hf : s.selector.inFlight = none := by simpa [State.noFlightIdle, hout, hseek] using hf
  obtain ⟨own, hbit⟩ := State.lineBit_of_dominant h
  by_contra hno
  have hrec : s.lineBit own bit = true := State.lineBit_recessive own hv hf fun d hd =>
    Bool.eq_false_iff.mpr fun hb => hno ⟨d, hd, hb⟩
  rw [hrec] at hbit
  cases hbit

end Sys2Proof.Machine

open Sys2Proof Sys2Proof.Machine

/-- Settles O56: every operation keeps the form of the zone table, and a step is one of them. -/
theorem zoneTableFormKept : Obligations.ZoneTableFormKept :=
  fun _ _ hwf hstep => (step_keeps hstep).zones hwf

/-- Settles O58: every operation keeps what a station outside the cluster holds and may drive; there a dominant bit
can only be one of the slot being driven, and FAULTED drives none. -/
theorem outsideFormKept : Obligations.OutsideFormKept := by
  refine ⟨fun s t hc hs hstep => ?_, fun s bit hs hst => ?_, fun s bit hs hst hdom => ?_⟩
  · exact t.outsideForm_iff.mp ((step_keeps hstep).outside (s.outsideForm_iff.mpr ⟨hc, hs⟩))
  · refine Bool.eq_false_iff.mpr fun hdom => ?_
    obtain ⟨d, hd, -⟩ := State.slot_of_dominant hs (by rw [hst]; rfl) (by simp [hst]) hdom
    simp [State.silentFits, State.noSlotFaulted, hst, hd] at hs
  · exact State.slot_of_dominant hs (by rw [hst]; rfl) (by simp [hst]) hdom
end

section
/-! SUPPORT. What the membership messages do to a roster (Chapter 3): its roles after each operation, its form said
as a proposition (R54), what keeps that form, and when a MEMBER stays one. -/

namespace Sys2Proof.Machine

namespace Roster

/-! ## Roles -/

theorem role_setRole (r : Roster) (a x : Addr) (role : Role) :
    (r.setRole a role).role x = if a = x then role else r.role x := by
  by_cases h : a = x
  · subst h
    simp [Roster.role, Roster.setRole]
  · simp [Roster.role, Roster.setRole, put_get_of_ne _ _ h, h]

@[simp] theorem role_setRole_self (r : Roster) (a : Addr) (role : Role) :
    (r.setRole a role).role a = role := by
  simp [role_setRole]

theorem role_setRole_of_ne (r : Roster) {a x : Addr} (role : Role) (h : x ≠ a) :
    (r.setRole a role).role x = r.role x := by
  simp [role_setRole, Ne.symm h]

theorem role_cleared (x : Addr) : Roster.cleared.role x = .absent := by
  simp [Roster.role, Roster.cleared, Vector.get]

theorem joiner_eq_none_iff (r : Roster) : r.joiner = none ↔ ∀ a, r.role a ≠ .joining := by
  simp [Roster.joiner, lowest_none_iff]

theorem role_of_joiner {r : Roster} {j : Addr} (h : r.joiner = some j) : r.role j = .joining := by
  simpa using lowest_holds h

theorem donor_eq_none_iff (r : Roster) : r.donor = none ↔ ∀ a, r.role a ≠ .member := by
  simp [Roster.donor, lowest_none_iff]

theorem donor_ne_none_of_member {r : Roster} {a : Addr} (h : r.role a = .member) : r.donor ≠ none :=
  fun hd => (donor_eq_none_iff r).mp hd a h

/-! ## Each operation, case by case -/

theorem promote_of_empty {r : Roster} (h : r.joinQueue = []) : r.promote = { r with progress := none } := by
  simp [Roster.promote, h]

theorem promote_of_cons {r : Roster} {head : Addr} {rest : List Addr} (h : r.joinQueue = head :: rest) :
    r.promote = { r.setRole head .joining with joinQueue := rest, progress := some 0 } := by
  simp [Roster.promote, h]

/-- R61, R62: a promotion changes the role of the head of the queue only. -/
theorem role_promote_of_not_head {r : Roster} {x : Addr} (h : ∀ rest, r.joinQueue ≠ x :: rest) :
    r.promote.role x = r.role x := by
  cases hq : r.joinQueue with
  | nil => rw [promote_of_empty hq]; rfl
  | cons head rest =>
    have hne : x ≠ head := fun e => h rest (e ▸ hq)
    rw [promote_of_cons hq]
    exact role_setRole_of_ne r _ hne

theorem applyJoinReq_of_not {r : Roster} {s : Addr} (h : r.role s ≠ .absent ∨ r.donor = none) :
    r.applyJoinReq s = r := by
  rw [Roster.applyJoinReq, if_pos h]

theorem applyJoinReq_of_free {r : Roster} {s : Addr} (hs : r.role s = .absent) (hd : r.donor ≠ none)
    (hj : r.joiner = none) : r.applyJoinReq s = { r.setRole s .joining with progress := some 0 } := by
  simp [Roster.applyJoinReq, hs, hd, hj]

theorem applyJoinReq_of_busy {r : Roster} {s j : Addr} (hs : r.role s = .absent) (hd : r.donor ≠ none)
    (hj : r.joiner = some j) :
    r.applyJoinReq s = { r.setRole s .queued with joinQueue := r.joinQueue ++ [s] } := by
  simp [Roster.applyJoinReq, hs, hd, hj]

/-- The three courses of a committed JOIN_REQ (R60). -/
theorem applyJoinReq_cases (r : Roster) (s : Addr) :
    r.applyJoinReq s = r
    ∨ (r.role s = .absent ∧ r.joiner = none
        ∧ r.applyJoinReq s = { r.setRole s .joining with progress := some 0 })
    ∨ (r.role s = .absent ∧ (∃ j, r.joiner = some j)
        ∧ r.applyJoinReq s = { r.setRole s .queued with joinQueue := r.joinQueue ++ [s] }) := by
  by_cases h : r.role s ≠ .absent ∨ r.donor = none
  · exact .inl (applyJoinReq_of_not h)
  · obtain ⟨hs, hd⟩ := not_or.mp h
    have hs : r.role s = .absent := not_not.mp hs
    cases hj : r.joiner with
    | none => exact .inr (.inl ⟨hs, rfl, applyJoinReq_of_free hs hd hj⟩)
    | some j => exact .inr (.inr ⟨hs, ⟨j, rfl⟩, applyJoinReq_of_busy hs hd hj⟩)

theorem role_applyJoinReq_of_ne (r : Roster) {s x : Addr} (h : x ≠ s) :
    (r.applyJoinReq s).role x = r.role x := by
  rcases r.applyJoinReq_cases s with e | ⟨-, -, e⟩ | ⟨-, -, e⟩ <;> rw [e]
  · exact role_setRole_of_ne r _ h
  · exact role_setRole_of_ne r _ h

/-- A MEMBER stays one at every JOIN_REQ, its own included. -/
theorem member_applyJoinReq {r : Roster} {x : Addr} (hx : r.role x = .member) (s : Addr) :
    (r.applyJoinReq s).role x = .member := by
  by_cases hxs : x = s
  · subst hxs
    rw [applyJoinReq_of_not (.inl (by simp [hx])), hx]
  · rw [role_applyJoinReq_of_ne r hxs, hx]

theorem applySnap_of_not {r : Roster} {i : Nat} (h : r.joiner = none ∨ r.progress ≠ some i) :
    r.applySnap i = r := by
  unfold Roster.applySnap
  split
  · rename_i j p hj hp
    have hip : i ≠ p := by
      rintro rfl
      simp [hj, hp] at h
    rw [if_neg hip]
  · rfl

theorem applySnap_of_inner {r : Roster} {j : Addr} {p : Nat} (hj : r.joiner = some j)
    (hp : r.progress = some p) (h : p + 1 ≠ Config.blockCount) :
    r.applySnap p = { r with progress := some (p + 1) } := by
  simp [Roster.applySnap, hj, hp, h]

theorem applySnap_of_last {r : Roster} {j : Addr} {p : Nat} (hj : r.joiner = some j)
    (hp : r.progress = some p) (h : p + 1 = Config.blockCount) :
    r.applySnap p = (r.setRole j .member).promote := by
  simp [Roster.applySnap, hj, hp, h]

/-- The three courses of a committed SNAP (R61). -/
theorem applySnap_cases (r : Roster) (i : Nat) :
    r.applySnap i = r
    ∨ (∃ j, r.joiner = some j ∧ r.progress = some i ∧ i + 1 ≠ Config.blockCount
        ∧ r.applySnap i = { r with progress := some (i + 1) })
    ∨ (∃ j, r.joiner = some j ∧ r.applySnap i = (r.setRole j .member).promote) := by
  by_cases h : r.joiner = none ∨ r.progress ≠ some i
  · exact .inl (applySnap_of_not h)
  · obtain ⟨hj, hp⟩ := not_or.mp h
    obtain ⟨j, hj⟩ := Option.ne_none_iff_exists'.mp hj
    have hp : r.progress = some i := not_not.mp hp
    by_cases hi : i + 1 = Config.blockCount
    · exact .inr (.inr ⟨j, hj, applySnap_of_last hj hp hi⟩)
    · exact .inr (.inl ⟨j, hj, hp, hi, applySnap_of_inner hj hp hi⟩)

theorem remove_of_absent {r : Roster} {t : Addr} (h : r.role t = .absent) : r.remove t = r := by
  simp [Roster.remove, Roster.removeRole, h]

theorem remove_of_joining {r : Roster} {t : Addr} (h : r.role t = .joining) :
    r.remove t = (r.setRole t .absent).promote := by
  simp [Roster.remove, Roster.removeRole, h]

theorem remove_of_queued {r : Roster} {t : Addr} (h : r.role t = .queued) :
    r.remove t =
      { r.setRole t .absent with joinQueue := r.joinQueue.filter (fun a => a != t) } := by
  simp [Roster.remove, Roster.removeRole, h]

/-- R62, R64: a MEMBER beside another. -/
theorem remove_of_member {r : Roster} {t x : Addr} (h : r.role t = .member) (hx : r.role x = .member)
    (hne : x ≠ t) : r.remove t = r.setRole t .absent := by
  have hd : (r.setRole t .absent).donor ≠ none :=
    donor_ne_none_of_member (a := x) (by rw [role_setRole_of_ne r _ hne, hx])
  simp [Roster.remove, Roster.removeRole, h, hd]

/-- R64: the last MEMBER. -/
theorem remove_of_last {r : Roster} {t : Addr} (h : r.role t = .member)
    (hlast : ∀ x, x ≠ t → r.role x ≠ .member) : r.remove t = (r.setRole t .absent).dissolve := by
  have hd : (r.setRole t .absent).donor = none := by
    rw [donor_eq_none_iff]
    intro x
    by_cases hx : x = t
    · simp [hx]
    · rw [role_setRole_of_ne r _ hx]
      exact hlast x hx
  simp [Roster.remove, Roster.removeRole, h, hd]

/-- R64: a roster without a MEMBER dissolves into one of no roles. -/
theorem role_dissolve_of_no_member {r : Roster} (x : Addr) (h : r.role x ≠ .member) :
    r.dissolve.role x = .absent := by
  have hx : r.dissolve.role x = _ := tabulate_get _ x
  rw [hx]
  cases hr : r.role x with
  | member => exact absurd hr h
  | absent | joining | queued => rfl

theorem role_dissolve_of_last {r : Roster} {t : Addr} (hlast : ∀ x, x ≠ t → r.role x ≠ .member)
    (x : Addr) : (r.setRole t .absent).dissolve.role x = .absent := by
  refine role_dissolve_of_no_member x ?_
  by_cases hx : x = t
  · simp [hx]
  · rw [role_setRole_of_ne r _ hx]
    exact hlast x hx

theorem promote_counter (r : Roster) : r.promote.counter = r.counter := by
  unfold Roster.promote
  split <;> rfl

/-- A removal by the role the removed address had. -/
theorem remove_cases (r : Roster) (t : Addr) :
    (r.role t = .absent ∧ r.remove t = r)
    ∨ (r.role t = .joining ∧ r.remove t = (r.setRole t .absent).promote)
    ∨ (r.role t = .queued ∧ r.remove t =
        { r.setRole t .absent with joinQueue := r.joinQueue.filter (fun a => a != t) })
    ∨ (r.role t = .member ∧ (∃ x, r.role x = .member ∧ x ≠ t) ∧ r.remove t = r.setRole t .absent)
    ∨ (r.role t = .member ∧ (∀ x, x ≠ t → r.role x ≠ .member)
        ∧ r.remove t = (r.setRole t .absent).dissolve) := by
  cases h : r.role t with
  | absent => exact .inl ⟨rfl, remove_of_absent h⟩
  | joining => exact .inr (.inl ⟨rfl, remove_of_joining h⟩)
  | queued => exact .inr (.inr (.inl ⟨rfl, remove_of_queued h⟩))
  | member =>
    by_cases hx : ∃ x, r.role x = .member ∧ x ≠ t
    · obtain ⟨x, hx, hne⟩ := hx
      exact .inr (.inr (.inr (.inl ⟨rfl, ⟨x, hx, hne⟩, remove_of_member h hx hne⟩)))
    · have hlast : ∀ x, x ≠ t → r.role x ≠ .member := fun x hne hm => hx ⟨x, hm, hne⟩
      exact .inr (.inr (.inr (.inr ⟨rfl, hlast, remove_of_last h hlast⟩)))

/-- R62: a removal leaves the counter. -/
theorem remove_counter (r : Roster) (t : Addr) :
    (r.remove t).counter = r.counter := by
  rcases r.remove_cases t with ⟨-, e⟩ | ⟨-, e⟩ | ⟨-, e⟩ | ⟨-, -, e⟩ | ⟨-, -, e⟩ <;> rw [e]
  · exact promote_counter _
  all_goals rfl

/-! ## The form of a roster (R54) -/

/-- R54: at most one address is JOINING; the join queue lists each QUEUED address once and no other; progress is
defined exactly when an address is JOINING, and the join queue is empty when none is. -/
structure Form (r : Roster) : Prop where
  oneJoiner : ∀ a b, r.role a = .joining → r.role b = .joining → a = b
  nodup     : r.joinQueue.Nodup
  queued    : ∀ a, a ∈ r.joinQueue ↔ r.role a = .queued
  progress  : ∀ j, r.role j = .joining → ∃ p, r.progress = some p ∧ p ≤ Config.lastBlock
  idle      : (∀ a, r.role a ≠ .joining) → r.progress = none ∧ r.joinQueue = []

end Roster

/-- A count of at most one is a property of at most one address. -/
theorem countAddrs_le_one_iff (p : Addr → Bool) :
    countAddrs p ≤ 1 ↔ ∀ a b, p a = true → p b = true → a = b := by
  have hmem (a : Addr) : a ∈ allAddrs.filter p ↔ p a = true := by simp [allAddrs]
  have hnodup : (allAddrs.filter p).Nodup := (List.nodup_finRange 16).filter p
  rw [countAddrs, List.countP_eq_length_filter]
  constructor
  · intro h a b ha hb
    by_contra hab
    have hsub : [a, b].Subperm (allAddrs.filter p) :=
      List.subperm_of_subset (by simp [hab]) (by simp [hmem, ha, hb])
    have := hsub.length_le
    simp at this
    omega
  · intro h
    match hl : allAddrs.filter p with
    | [] => simp
    | [a] => simp
    | a :: b :: rest =>
      have hab : a = b := h a b ((hmem a).mp (by simp [hl])) ((hmem b).mp (by simp [hl]))
      simp [hl, hab] at hnodup

namespace Roster

theorem oneJoiner_iff (r : Roster) :
    r.oneJoiner = true ↔ ∀ a b, r.role a = .joining → r.role b = .joining → a = b := by
  simp [Roster.oneJoiner, countAddrs_le_one_iff]

theorem queueFits_iff (r : Roster) :
    r.queueFits = true ↔ r.joinQueue.Nodup ∧ ∀ a, a ∈ r.joinQueue ↔ r.role a = .queued := by
  have hsame (x y : Bool) : (x == y) = true ↔ (x = true ↔ y = true) := by
    rw [beq_iff_eq, Bool.eq_iff_iff]
  simp [Roster.queueFits, allAddrs, hsame]

/-- The form as the model checks it. -/
theorem wf_iff_form (r : Roster) : r.wf = true ↔ r.Form := by
  simp only [Roster.wf, Bool.and_eq_true, oneJoiner_iff, queueFits_iff, and_assoc]
  unfold Roster.progressFits
  constructor
  · rintro ⟨h1, hnodup, hq, hp⟩
    cases hj : r.joiner with
    | none =>
      have hno := (joiner_eq_none_iff r).mp hj
      cases hpr : r.progress with
      | none =>
        exact ⟨h1, hnodup, hq, fun j h => absurd h (hno j),
          fun _ => ⟨hpr, by simpa [hj, hpr] using hp⟩⟩
      | some p => simp [hj, hpr] at hp
    | some j =>
      have hrole := role_of_joiner hj
      cases hpr : r.progress with
      | none => simp [hj, hpr] at hp
      | some p =>
        exact ⟨h1, hnodup, hq, fun _ _ => ⟨p, hpr, by simpa [hj, hpr] using hp⟩,
          fun hno => absurd hrole (hno j)⟩
  · rintro ⟨h1, hnodup, hq, hp, hidle⟩
    refine ⟨h1, hnodup, hq, ?_⟩
    cases hj : r.joiner with
    | none =>
      obtain ⟨hpr, hempty⟩ := hidle ((joiner_eq_none_iff r).mp hj)
      simp [hpr, hempty]
    | some j =>
      obtain ⟨p, hpr, hle⟩ := hp j (role_of_joiner hj)
      simp [hpr, hle]

theorem cleared_form : Roster.cleared.Form where
  oneJoiner a _ ha := by simp [role_cleared] at ha
  nodup := List.nodup_nil
  queued a := by
    rw [role_cleared]
    simp [Roster.cleared]
  progress j hj := by simp [role_cleared] at hj
  idle _ := ⟨rfl, rfl⟩

/-- R59: after the own FOUND the sender is the only MEMBER, and there is no other role. -/
theorem found_form (own : Addr) : (Roster.cleared.found own).Form := by
  have hrole (x : Addr) : (Roster.cleared.found own).role x = if own = x then .member else .absent := by
    rw [← role_cleared x]
    exact role_setRole Roster.cleared.advance own x .member
  have hno (x : Addr) : (Roster.cleared.found own).role x ≠ .joining := by
    rw [hrole]
    split <;> simp
  exact
    { oneJoiner := fun a _ ha => absurd ha (hno a)
      nodup := List.nodup_nil
      queued := fun a => by
        rw [hrole]
        split <;> simp [Roster.found, Roster.advance, Roster.setRole, Roster.cleared]
      progress := fun j hj => absurd hj (hno j)
      idle := fun _ => ⟨rfl, rfl⟩ }

namespace Form

variable {r : Roster}

protected theorem advance (h : r.Form) : r.advance.Form :=
  ⟨h.oneJoiner, h.nodup, h.queued, h.progress, h.idle⟩

/-- R61, R62: the JOINING address takes a role that is neither JOINING nor QUEUED, and its place goes to the head of
the queue. -/
theorem pass_on (h : r.Form) {j : Addr} (hj : r.role j = .joining) {role : Role}
    (hrole : role ≠ .joining) (hrole' : role ≠ .queued) : (r.setRole j role).promote.Form := by
  have hno (a : Addr) : (r.setRole j role).role a ≠ .joining := by
    rw [role_setRole]
    split
    · exact hrole
    · exact fun ha => ‹j ≠ a› (h.oneJoiner j a hj ha)
  have hqueued (a : Addr) : a ∈ r.joinQueue ↔ (r.setRole j role).role a = .queued := by
    rw [h.queued a, role_setRole]
    split
    · subst j
      simp [hj, hrole']
    · rfl
  cases hq : r.joinQueue with
  | nil =>
    rw [promote_of_empty (show (r.setRole j role).joinQueue = [] from hq)]
    exact ⟨fun a _ ha => absurd ha (hno a), h.nodup, hqueued, fun a ha => absurd ha (hno a),
      fun _ => ⟨rfl, hq⟩⟩
  | cons head rest =>
    have hnodup := h.nodup
    rw [hq, List.nodup_cons] at hnodup
    obtain ⟨hhead, hrest⟩ := hnodup
    rw [promote_of_cons (show (r.setRole j role).joinQueue = head :: rest from hq)]
    have hjoin (a : Addr) : ((r.setRole j role).setRole head .joining).role a = .joining ↔ head = a := by
      rw [role_setRole]
      split
      · simp [*]
      · simp [*, hno a]
    refine ⟨fun a b ha hb => ?_, hrest, fun a => ?_, fun _ _ => ⟨0, rfl, by decide⟩, fun hidle => ?_⟩
    · exact ((hjoin a).mp ha).symm.trans ((hjoin b).mp hb)
    · have ha := hqueued a
      rw [hq, List.mem_cons] at ha
      show a ∈ rest ↔ ((r.setRole j role).setRole head .joining).role a = .queued
      rw [role_setRole]
      split
      · subst head
        simp [hhead]
      · rw [← ha]
        simp [Ne.symm ‹head ≠ a›]
    · exact absurd ((hjoin head).mpr rfl) (hidle head)

/-- R60: a JOIN_REQ keeps the form. -/
protected theorem applyJoinReq (h : r.Form) (s : Addr) : (r.applyJoinReq s).Form := by
  rcases r.applyJoinReq_cases s with e | ⟨hs, hnone, e⟩ | ⟨hs, ⟨j, hj⟩, e⟩ <;> rw [e]
  · exact h
  · have hno := (joiner_eq_none_iff r).mp hnone
    obtain ⟨-, hempty⟩ := h.idle hno
    have hjoin (a : Addr) : (r.setRole s .joining).role a = .joining ↔ s = a := by
      rw [role_setRole]
      split <;> simp [*]
    refine ⟨fun a b ha hb => ?_, h.nodup, fun a => ?_, fun _ _ => ⟨0, rfl, by decide⟩, fun hidle => ?_⟩
    · exact ((hjoin a).mp ha).symm.trans ((hjoin b).mp hb)
    · show a ∈ r.joinQueue ↔ (r.setRole s .joining).role a = .queued
      rw [h.queued a, role_setRole]
      split
      · subst s
        simp [hs]
      · rfl
    · exact absurd ((hjoin s).mpr rfl) (hidle s)
  · have hrole := role_of_joiner hj
    have hjoin (a : Addr) : (r.setRole s .queued).role a = .joining ↔ r.role a = .joining := by
      rw [role_setRole]
      split
      · subst s
        simp [hs]
      · rfl
    have hnot : s ∉ r.joinQueue := by simp [h.queued s, hs]
    refine ⟨fun a b ha hb => h.oneJoiner a b ((hjoin a).mp ha) ((hjoin b).mp hb), ?_, fun a => ?_,
      fun a ha => h.progress a ((hjoin a).mp ha), fun hidle => absurd ((hjoin j).mpr hrole) (hidle j)⟩
    · exact h.nodup.append (List.nodup_singleton s) (by simpa using hnot)
    · show a ∈ r.joinQueue ++ [s] ↔ (r.setRole s .queued).role a = .queued
      rw [List.mem_append, List.mem_singleton, h.queued a, role_setRole]
      split
      · simp [*]
      · simp [Ne.symm ‹s ≠ a›]

/-- R61: a SNAP keeps the form. -/
protected theorem applySnap (h : r.Form) (i : Nat) : (r.applySnap i).Form := by
  rcases r.applySnap_cases i with e | ⟨j, hj, hp, hi, e⟩ | ⟨j, hj, e⟩ <;> rw [e]
  · exact h
  · have hrole := role_of_joiner hj
    obtain ⟨p, hp', hle⟩ := h.progress j hrole
    obtain rfl : i = p := Option.some.inj (hp.symm.trans hp')
    have hle : i + 1 ≤ Config.lastBlock := by
      simp only [Config.lastBlock, Config.blockCount] at *
      omega
    exact ⟨h.oneJoiner, h.nodup, h.queued, fun _ _ => ⟨i + 1, rfl, hle⟩, fun hidle => absurd hrole (hidle j)⟩
  · exact h.pass_on (role_of_joiner hj) (by simp) (by simp)

/-- An address without JOINING and QUEUED role taken out of the roster, the queue being what it is. -/
protected theorem setRole_absent (h : r.Form) {t : Addr} (hj : r.role t ≠ .joining) (hq : r.role t ≠ .queued) :
    (r.setRole t .absent).Form := by
  have hsame (a : Addr) {role : Role} (hr : role ≠ .absent) (ht : r.role t ≠ role) :
      (r.setRole t .absent).role a = role ↔ r.role a = role := by
    rw [role_setRole]
    split
    · subst t
      simp [Ne.symm hr, ht]
    · rfl
  have hjoin (a : Addr) := hsame a (role := .joining) (by simp) hj
  exact
    { oneJoiner := fun a b ha hb => h.oneJoiner a b ((hjoin a).mp ha) ((hjoin b).mp hb)
      nodup := h.nodup
      queued := fun a => (h.queued a).trans (hsame a (by simp) hq).symm
      progress := fun a ha => h.progress a ((hjoin a).mp ha)
      idle := fun hidle => h.idle (fun a ha => hidle a ((hjoin a).mpr ha)) }

/-- R62, R64: a removal keeps the form. -/
protected theorem remove (h : r.Form) (t : Addr) : (r.remove t).Form := by
  rcases r.remove_cases t with ⟨-, e⟩ | ⟨hj, e⟩ | ⟨hq, e⟩ | ⟨hm, -, e⟩ | ⟨-, hlast, e⟩ <;> rw [e]
  · exact h
  · exact h.pass_on hj (by simp) (by simp)
  · have hjoin (a : Addr) : (r.setRole t .absent).role a = .joining ↔ r.role a = .joining := by
      rw [role_setRole]
      split
      · subst t
        simp [hq]
      · rfl
    refine ⟨fun a b ha hb => h.oneJoiner a b ((hjoin a).mp ha) ((hjoin b).mp hb), h.nodup.filter _,
      fun a => ?_, fun a ha => h.progress a ((hjoin a).mp ha), fun hidle => ?_⟩
    · show a ∈ r.joinQueue.filter (fun x => x != t) ↔ (r.setRole t .absent).role a = .queued
      rw [List.mem_filter, h.queued a, role_setRole]
      split
      · simp [*]
      · simp [Ne.symm ‹t ≠ a›]
    · obtain ⟨hp, hempty⟩ := h.idle (fun a ha => hidle a ((hjoin a).mpr ha))
      exact ⟨hp, by simp [hempty]⟩
  · exact h.setRole_absent (by simp [hm]) (by simp [hm])
  · have habsent := role_dissolve_of_last hlast
    exact
      { oneJoiner := fun a _ ha => by simp [habsent] at ha
        nodup := List.nodup_nil
        queued := fun a => by rw [habsent]; simp [Roster.dissolve]
        progress := fun a ha => by simp [habsent] at ha
        idle := fun _ => ⟨rfl, rfl⟩ }

/-! ## A MEMBER that stays one -/

/-- The head of the queue is QUEUED, so a promotion leaves every MEMBER. -/
theorem not_head_of_member (h : r.Form) {x : Addr} (hx : r.role x = .member) (rest : List Addr) :
    r.joinQueue ≠ x :: rest := fun hq => by
  have hqueued : r.role x = .queued := (h.queued x).mp (by simp [hq])
  simp [hx] at hqueued

theorem member_pass_on (h : r.Form) {x j : Addr} (hx : r.role x = .member) (hne : x ≠ j) (role : Role) :
    (r.setRole j role).promote.role x = .member := by
  have hhead : ∀ rest, (r.setRole j role).joinQueue ≠ x :: rest := h.not_head_of_member hx
  rw [role_promote_of_not_head hhead, role_setRole_of_ne r _ hne, hx]

theorem member_applySnap (h : r.Form) {x : Addr} (hx : r.role x = .member) (i : Nat) :
    (r.applySnap i).role x = .member := by
  rcases r.applySnap_cases i with e | ⟨j, -, -, -, e⟩ | ⟨j, hj, e⟩ <;> rw [e]
  · exact hx
  · exact hx
  · have hne : x ≠ j := fun hxj => by simp [hxj, role_of_joiner hj] at hx
    exact h.member_pass_on hx hne _

theorem member_remove (h : r.Form) {x t : Addr} (hx : r.role x = .member) (hne : x ≠ t) :
    (r.remove t).role x = .member := by
  rcases r.remove_cases t with ⟨-, e⟩ | ⟨-, e⟩ | ⟨-, e⟩ | ⟨-, -, e⟩ | ⟨-, hlast, -⟩
  · rw [e, hx]
  · rw [e]
    exact h.member_pass_on hx hne _
  · rw [e, ← hx]
    exact role_setRole_of_ne r _ hne
  · rw [e, role_setRole_of_ne r _ hne, hx]
  · exact absurd hx (hlast x hne)

/-! ## Commits and blocks -/

/-- R50 step 1: the membership effect of every message keeps the form. -/
protected theorem rosterEffect (h : r.Form) (sender : Addr) (b : Body) : (rosterEffect r sender b).Form := by
  cases b with
  | joinReq => exact h.applyJoinReq sender
  | snap index content => exact h.applySnap _
  | leave reason => exact h.remove sender
  | evict target reason => exact h.remove target
  | found | claim | renew | release | cancel | note => exact h

end Form

end Roster

end Sys2Proof.Machine
end

section
/-! SUPPORT. The statement about the roster effects of the membership messages settled. -/

open Sys2Proof Sys2Proof.Machine Roster

/-- Settles O50: each course of a JOIN_REQ, a SNAP and a removal, by the role the address had. -/
theorem rosterEffects : Obligations.RosterEffects := by
  refine ⟨?free, ?busy, fun _ _ => applyJoinReq_of_not, fun r _ _ => role_applyJoinReq_of_ne r, ?inner,
    fun _ _ => applySnap_of_not, ?last, ?lastWithQueue, fun _ _ => remove_of_absent, ?joiner,
    ?joinerWithQueue, ?queued, ?member, ?lastMember, remove_counter⟩
  case free =>
    intro r s hs hd hj
    rw [applyJoinReq_of_free hs hd hj]
    exact ⟨role_setRole_self r s _, rfl, rfl⟩
  case busy =>
    intro r s j hs hd hj
    rw [applyJoinReq_of_busy hs hd hj]
    exact ⟨role_setRole_self r s _, rfl, rfl⟩
  case inner =>
    intro r j p hj hp hlt
    exact applySnap_of_inner hj hp (by simp only [Config.blockCount]; omega)
  case last =>
    intro r j hj hp hq
    rw [applySnap_of_last hj hp rfl, promote_of_empty (r := r.setRole j .member) hq]
    exact ⟨role_setRole_self r j _, rfl⟩
  case lastWithQueue =>
    intro r j head rest hj hp hq hne
    rw [applySnap_of_last hj hp rfl, promote_of_cons (r := r.setRole j .member) hq]
    have hjoiner : ((r.setRole j .member).setRole head .joining).role j = .member := by
      rw [role_setRole_of_ne _ _ hne.symm, role_setRole_self]
    exact ⟨hjoiner, role_setRole_self _ head _, rfl, rfl⟩
  case joiner =>
    intro r j hj hq
    rw [remove_of_joining hj, promote_of_empty (r := r.setRole j .absent) hq]
    exact ⟨role_setRole_self r j _, rfl⟩
  case joinerWithQueue =>
    intro r j head rest hj hq hne
    rw [remove_of_joining hj, promote_of_cons (r := r.setRole j .absent) hq]
    have hjoiner : ((r.setRole j .absent).setRole head .joining).role j = .absent := by
      rw [role_setRole_of_ne _ _ hne.symm, role_setRole_self]
    have hother (x : Addr) (hxj : x ≠ j) (hxh : x ≠ head) :
        ((r.setRole j .absent).setRole head .joining).role x = r.role x := by
      rw [role_setRole_of_ne _ _ hxh, role_setRole_of_ne _ _ hxj]
    exact ⟨hjoiner, role_setRole_self _ head _, rfl, rfl, hother⟩
  case queued =>
    intro r q hq
    rw [remove_of_queued hq]
    exact ⟨role_setRole_self r q _, rfl, rfl, fun x hx => role_setRole_of_ne r _ hx⟩
  case member =>
    intro r s x hs hx hne
    rw [remove_of_member hs hx hne]
    have hstays : (r.setRole s .absent).role x = .member := by
      rw [role_setRole_of_ne r _ hne, hx]
    exact ⟨role_setRole_self r s _, hstays, rfl, rfl, fun y hy => role_setRole_of_ne r _ hy⟩
  case lastMember =>
    intro r s hs hlast
    rw [remove_of_last hs hlast]
    exact ⟨role_dissolve_of_last hlast, rfl, rfl⟩
end

section
/-! SUPPORT. What one step can do, said once: every row and every bit time is a chain of the moves named here. What
each move keeps, a step keeps (`step_of_moves`). -/

namespace Sys2Proof.Machine

/-- One move of the station: a command taken by its port, one of the points and findings of the line cycle, or an
update of the pins, the queue of commands or the cycle position. -/
inductive State.Move (s : State) : State → Prop where
  | pending (queue : List Instr) : s.Move (s.setPending queue)
  | port (p : Port) : s.Move (s.setPort p)
  | hardwareReset : s.Move s.powerReset
  | command (c : HostCommand) (params : List Byte) : s.Move (runCommand c params s).state
  | mark (m : Mark) : s.Move (s.takeMark m)
  | lostMark : s.Move s.loseMark
  | status (slots : Slots) : s.Move (s.takeStatus slots)
  | selection : s.Move s.takeSelection
  | arbitrationLoss (bit : Fin 7) : s.Move (s.loseAt bit)
  | claimFault (bit : Fin 7) : s.Move (s.faultAt bit)
  | claim (read : ClaimRead) : s.Move (s.takeClaim read)
  | messageMismatch (bit : Fin 160) : s.Move (s.mismatchAt bit)
  | message (m : MessageBytes) : s.Move (s.takeMessage m)
  | ownedMismatch (bit : Fin 512) : s.Move (s.mismatchOwned bit)
  | verdict (a b : VerdictCopy) : s.Move (s.takeVerdict a b)
  | position (p : CyclePosition) (h : p.inRange = true) : s.Move (s.setPosition p)

/-- A chain of moves. -/
abbrev State.Reaches : State → State → Prop :=
  Relation.ReflTransGen State.Move

namespace State.Reaches

variable {s t u : State}

theorem when {c : Prop} [Decidable c] (h : s.Reaches t) : s.Reaches (if c then t else s) := by
  split
  · exact h
  · exact .refl

theorem unlessReset (h : s.Reaches t) : s.Reaches (s.unlessReset t) := by
  unfold State.unlessReset
  split
  · exact .refl
  · exact h

/-- A host command taken: its effect, then its reply in the port. -/
theorem taken (c : PortCommand) (params : List Byte) {run : State → Taken}
    (h : s.Reaches (run s).state) : s.Reaches (s.takeCommand c params run) := by
  unfold State.takeCommand
  split
  · exact h.tail (.port _)
  · exact .refl

theorem endOfCycle (s : State) (finish : CycleEnd) : s.Reaches (s.takeEnd finish) := by
  cases finish with
  | verdict a b => exact .single (.verdict a b)
  | cut bit claimStart => exact .single (.mark (.early bit claimStart))

theorem csFalls (s : State) : s.Reaches s.csFalls := by
  unfold State.csFalls
  split
  · exact .single (.port _)
  split
  · exact .refl
  split <;> exact .single (.port _)

theorem csRises (s : State) : s.Reaches s.csRises := when (.single (.port _))

theorem replyByte (s : State) : s.Reaches s.replyByte := when (.single (.port _))

theorem commandByte (s : State) (code : Byte) : s.Reaches (s.commandByte code) := by
  unfold State.commandByte
  split
  · rename_i c _
    split
    · exact taken _ _ (.single (.command c []))
    · exact .single (.port _)
  · exact taken _ _ .refl

theorem parameterByte (s : State) (value : Byte) : s.Reaches (s.parameterByte value) := by
  unfold State.parameterByte
  split
  · rename_i c _ _
    unfold State.paramByte
    split
    · exact taken _ _ (.single (.command c _))
    · exact .single (.port _)
  · exact .refl

theorem pointAfter (s : State) (n : Fin 512) : s.Reaches (s.pointAfter n) := by
  unfold State.pointAfter
  split
  · exact .single (.verdict _ _)
  split
  · exact .single (.message _)
  split
  · exact .single (.claim _)
  · exact when (.single (.status _))

theorem bitTime (s : State) : s.Reaches (bitTime s) := by
  unfold Machine.bitTime
  split
  · exact .refl
  split
  · exact .refl
  · rename_i n _
    have hnext : (bitAfter n).inRange = true := by
      unfold bitAfter
      split <;> rfl
    exact ((pointAfter s n).tail (.position _ hnext)).trans (when (.single .selection))
  · exact .single (.position _ rfl)
  · rename_i k _
    split
    · exact .single (.position _ (by simp [CyclePosition.inRange]; omega))
    · exact .single .lostMark

end State.Reaches

open State.Reaches

/-- Every row answers, with a state that a chain of moves reaches. -/
theorem exec_reaches (i : Instr) (s : State) : ∃ t, exec i s = .next t ∧ s.Reaches t := by
  have command (c : HostCommand) (params : List Byte) :
      s.Reaches (s.unlessReset (s.takeCommand (.known c) params (runCommand c params))) :=
    unlessReset (taken _ params (.single (.command c params)))
  have point {t : State} (h : s.Move t) : s.Reaches (s.unlessReset t) := unlessReset (.single h)
  have limit {c : Prop} [Decidable c] {t : State} (h : s.Reaches t) :
      s.Reaches (s.unlessReset (if c then t else s)) := unlessReset (when h)
  match i with
  | .hardwareReset => exact ⟨_, rfl, .single .hardwareReset⟩
  | .rstRelease => exact ⟨_, rfl, .single (.port _)⟩
  | .csFall => exact ⟨_, rfl, csFalls s⟩
  | .csRise => exact ⟨_, rfl, csRises s⟩
  | .unknownCommand code => exact ⟨_, rfl, limit (taken _ _ .refl)⟩
  | .configure a sl fw rl rj => exact ⟨_, rfl, command .configure [a, sl, fw, rl, rj]⟩
  | .start => exact ⟨_, rfl, command .start []⟩
  | .stop => exact ⟨_, rfl, command .stop []⟩
  | .join => exact ⟨_, rfl, command .join []⟩
  | .leave => exact ⟨_, rfl, command .leave []⟩
  | .claim tag zone mode wait d => exact ⟨_, rfl, command .claim [tag, zone, mode, wait, d]⟩
  | .renew tag zone d => exact ⟨_, rfl, command .renew [tag, zone, d]⟩
  | .release tag zone => exact ⟨_, rfl, command .release [tag, zone]⟩
  | .cancel tag zone => exact ⟨_, rfl, command .cancel [tag, zone]⟩
  | .note tag destination length data =>
    exact ⟨_, rfl, limit (taken _ _ (.single (.command .note (tag :: destination :: length :: data))))⟩
  | .recall tag => exact ⟨_, rfl, command .recall [tag]⟩
  | .veto zone flag => exact ⟨_, rfl, command .veto [zone, flag]⟩
  | .watch zone flag => exact ⟨_, rfl, command .watch [zone, flag]⟩
  | .readZone zone => exact ⟨_, rfl, command .readZone [zone]⟩
  | .readRoster => exact ⟨_, rfl, command .readRoster []⟩
  | .readStation => exact ⟨_, rfl, command .readStation []⟩
  | .fetchEvent => exact ⟨_, rfl, command .fetchEvent []⟩
  | .ackEvent sequence => exact ⟨_, rfl, command .ackEvent [sequence]⟩
  | .reset => exact ⟨_, rfl, command .reset []⟩
  | .cycleMark => exact ⟨_, rfl, point (.mark .timely)⟩
  | .leaseExpiry zone mark => exact ⟨_, rfl, limit (.single (.mark mark))⟩
  | .earlyMark bit claimStart => exact ⟨_, rfl, point (.mark (.early bit claimStart))⟩
  | .lostMark => exact ⟨_, rfl, point .lostMark⟩
  | .statusPoint slots => exact ⟨_, rfl, point (.status slots)⟩
  | .listenCheckPassed slots => exact ⟨_, rfl, limit (.single (.status slots))⟩
  | .formationWaitExpiry slots => exact ⟨_, rfl, limit (.single (.status slots))⟩
  | .evictionCandidate slots => exact ⟨_, rfl, limit (.single (.status slots))⟩
  | .divergence slots => exact ⟨_, rfl, limit (.single (.status slots))⟩
  | .selectionPoint => exact ⟨_, rfl, point .selection⟩
  | .arbitrationLoss bit => exact ⟨_, rfl, point (.arbitrationLoss bit)⟩
  | .claimReadbackFault bit => exact ⟨_, rfl, point (.claimFault bit)⟩
  | .claimSegment read => exact ⟨_, rfl, point (.claim read)⟩
  | .messageReadbackMismatch bit => exact ⟨_, rfl, point (.messageMismatch bit)⟩
  | .messageSegment bytes => exact ⟨_, rfl, point (.message bytes)⟩
  | .ownedBitMismatch bit => exact ⟨_, rfl, point (.ownedMismatch bit)⟩
  | .readbackFault bit => exact ⟨_, rfl, limit (.single (.ownedMismatch bit))⟩
  | .verdictPoint a b => exact ⟨_, rfl, point (.verdict a b)⟩
  | .retryLimitReached a b => exact ⟨_, rfl, limit (.single (.verdict a b))⟩
  | .joinStall finish => exact ⟨_, rfl, limit (endOfCycle s finish)⟩
  | .holdOffExpiry finish => exact ⟨_, rfl, limit (endOfCycle s finish)⟩
  | .commandByteComplete code => exact ⟨_, rfl, limit (commandByte s code)⟩
  | .parameterByteComplete value => exact ⟨_, rfl, unlessReset (parameterByte s value)⟩
  | .replyByteComplete => exact ⟨_, rfl, unlessReset (replyByte s)⟩

theorem step_reaches {s t : State} (h : step s = .next t) : s.Reaches t := by
  cases hp : s.pending with
  | nil =>
    rw [step_of_empty hp] at h
    exact Host.Outcome.next.inj h ▸ State.Reaches.bitTime s
  | cons c rest =>
    rw [step_of_cons hp] at h
    obtain ⟨u, hu, hreach⟩ := exec_reaches c (s.setPending rest)
    rw [hu] at h
    exact Host.Outcome.next.inj h ▸ hreach.head (.pending rest)

/-- What every move keeps, every step keeps. -/
theorem step_of_moves {R : State → State → Prop} (refl : ∀ s, R s s)
    (trans : ∀ {s t u}, R s t → R t u → R s u) (move : ∀ {s t : State}, s.Move t → R s t)
    {s t : State} (h : step s = .next t) : R s t := by
  have hreach := step_reaches h
  clear h
  induction hreach with
  | refl => exact refl s
  | tail _ hmove ih => exact trans ih (move hmove)

end Sys2Proof.Machine
end

section
/-! SUPPORT. The roster of its form with a SYNCED station as MEMBER (R54, R106), and the ranges of every count with the
distinct tags that the attempt counts need: both said of the part of a station they read, and what an operation keeps of
them, said once for each kind of change. -/

namespace Sys2Proof.Machine

/-! ## The two forms -/

/-- The part of a station that the two forms speak of. -/
structure Gauge where
  controller : Controller
  roster     : Roster
  peers      : Vector PeerRecord 16
  divergence : Nat
  loaded     : Nat
  stall      : Nat
  seekHold   : Nat
  snapHold   : Nat
  position   : CyclePosition
  runCount   : Nat
  counters   : LineCounters
  entries    : List SendEntry

/-- That part of a state. -/
def State.gauge (s : State) : Gauge :=
  { controller := s.controller, roster := s.roster
    peers := s.monitor.peers, divergence := s.monitor.divergence
    loaded := s.snapshot.loaded, stall := s.snapshot.stall
    seekHold := s.selector.seekHold, snapHold := s.selector.snapHold
    position := s.line.position, runCount := s.line.runCount, counters := s.line.counters
    entries := s.sendQueue.entries }

/-- The roster has its form, and an address that is the own one of a SYNCED station is MEMBER in it. -/
structure Gauge.RosterForm (g : Gauge) : Prop where
  form   : g.roster.Form
  member : g.controller.station = .synced →
    ∃ a, g.controller.config.address = some a ∧ g.roster.role a = .member

/-- Table 3-4: the counts of a peer watch record. -/
structure PeerRecord.InRange (p : PeerRecord) : Prop where
  silence  : p.silence ≤ Config.silenceMax
  mismatch : p.mismatch ≤ Config.mismatchMax

/-- Every count lies in its range, and no two entries of the send queue share a tag (R147). An attempt is counted at the
tag of the entry that made it, so without distinct tags the ranges are not kept (`not_rangesKept`). -/
structure Gauge.InRange (g : Gauge) : Prop where
  config     : g.controller.config.inRange = true
  listen     : g.controller.listen ≤ Config.listenCycles
  formation  : g.controller.formation ≤ Config.formationMax
  peers      : ∀ a, (g.peers.get a).InRange
  divergence : g.divergence < Config.divergenceLimit
  loaded     : g.loaded ≤ Config.blockCount
  stall      : g.stall ≤ Config.stallLimit
  stallBelow : g.controller.station = .doubt ∨ g.stall < Config.stallLimit
  seekHold   : g.seekHold ≤ Config.holdOffCycles
  snapHold   : g.snapHold ≤ Config.holdOffCycles
  position   : g.position.inRange = true
  runCount   : g.runCount < Config.readbackLimit
  counters   : g.counters.inRange = true
  attempts   : ∀ e ∈ g.entries, e.attempts ≤ 15
  tags       : (g.entries.map SendEntry.tag).Nodup

theorem State.ownRole_eq_member_iff (s : State) :
    s.ownRole = .member ↔ ∃ a, s.own = some a ∧ s.roster.role a = .member := by
  unfold State.ownRole
  split
  · rename_i a ha
    simp [ha]
  · rename_i hnone
    simp [hnone]

/-- The roster's form as the model checks it. -/
theorem State.rosterForm_iff (s : State) : s.gauge.RosterForm ↔ s.rosterFits = true := by
  simp only [State.rosterFits, State.memberWhenSynced, Bool.and_eq_true, Bool.or_eq_true, bne_iff_ne,
    beq_iff_eq, s.ownRole_eq_member_iff, s.roster.wf_iff_form, ← imp_iff_not_or]
  exact ⟨fun h => ⟨h.form, h.member⟩, fun h => ⟨h.1, h.2⟩⟩

/-- The ranges as the model checks them, beside the distinct tags. -/
theorem State.inRange_iff (s : State) :
    s.gauge.InRange ↔ s.inRange = true ∧ (s.sendQueue.entries.map SendEntry.tag).Nodup := by
  simp only [State.inRange, Controller.inRange, Monitor.inRange, Snapshot.inRange, State.stallBelow,
    Selector.inRange, Line.inRange, SendQueue.inRange, Bool.and_eq_true, Bool.or_eq_true,
    decide_eq_true_eq, beq_iff_eq, List.all_eq_true, and_assoc]
  constructor
  · intro h
    exact ⟨h.config, h.listen, h.formation, fun a _ => ⟨(h.peers a).silence, (h.peers a).mismatch⟩,
      h.divergence, h.loaded, h.stall, h.stallBelow, h.seekHold, h.snapHold, h.position, h.runCount,
      h.counters, h.attempts, h.tags⟩
  · rintro ⟨hconfig, hlisten, hformation, hpeers, hdivergence, hloaded, hstall, hbelow, hseek, hsnap,
      hposition, hrun, hcounters, hattempts, htags⟩
    have hpeers (a : Addr) := hpeers a (by simp [allAddrs])
    exact ⟨hconfig, hlisten, hformation, fun a => ⟨(hpeers a).1, (hpeers a).2⟩, hdivergence, hloaded,
      hstall, hbelow, hseek, hsnap, hposition, hrun, hcounters, hattempts, htags⟩

/-- R91: outside DOUBT the stall count is below its limit. -/
theorem Gauge.InRange.stall_lt {g : Gauge} (h : g.InRange) (hst : g.controller.station ≠ .doubt) :
    g.stall < Config.stallLimit :=
  h.stallBelow.resolve_left hst

/-! ## Counts -/

theorem saturate_le (max n : Nat) : saturate max n ≤ max :=
  Nat.min_le_right _ _

theorem divergenceLimit_pos : 0 < Config.divergenceLimit := by decide
theorem stallLimit_pos : 0 < Config.stallLimit := by decide
theorem readbackLimit_pos : 0 < Config.readbackLimit := by decide

theorem PeerRecord.cleared_inRange : PeerRecord.cleared.InRange :=
  ⟨Nat.zero_le _, Nat.zero_le _⟩

theorem peers_cleared_inRange (a : Addr) : (Monitor.cleared.peers.get a).InRange := by
  have h : Monitor.cleared.peers.get a = PeerRecord.cleared := by simp [Monitor.cleared, Vector.get]
  rw [h]
  exact PeerRecord.cleared_inRange

/-- A table of records each in its range. -/
theorem tabulate_inRange {f : Addr → PeerRecord} (h : ∀ a, (f a).InRange) (a : Addr) :
    ((tabulate 16 f).get a).InRange := by
  rw [tabulate_get]
  exact h a

theorem PeerRecord.InRange.mismatch_zero {p : PeerRecord} (h : p.InRange) :
    ({ p with mismatch := 0 } : PeerRecord).InRange :=
  ⟨h.silence, Nat.zero_le _⟩

theorem PeerRecord.InRange.refuse {p : PeerRecord} (h : p.InRange) (b : Bool) :
    ({ p with refused := b } : PeerRecord).InRange :=
  ⟨h.silence, h.mismatch⟩

/-- R68: the slot of a cycle keeps the counts of a record in range. -/
theorem PeerRecord.InRange.watchSlot {p : PeerRecord} (h : p.InRange) (w : BitVec 16) :
    (watchSlot p w).InRange := by
  unfold Machine.watchSlot
  split
  · exact ⟨Nat.zero_le _, h.mismatch⟩
  · exact ⟨saturate_le _ _, h.mismatch⟩

theorem mismatchSlot_le (r : Role) {p : PeerRecord} (h : p.InRange) (w : BitVec 16) :
    mismatchSlot r p w ≤ Config.mismatchMax := by
  unfold mismatchSlot
  split
  · exact Nat.zero_le _
  split
  · split
    · exact Nat.zero_le _
    · exact saturate_le _ _
  · exact h.mismatch

/-- Table 7-4: each line counter stops at its maximum. -/
theorem LineCounters.inRange_iff (c : LineCounters) :
    c.inRange = true ↔
      c.commitsSeen ≤ Config.lineCounterMax ∧ c.crcErrors ≤ Config.lineCounterMax
      ∧ c.arbitrationLosses ≤ Config.lineCounterMax ∧ c.copyDisagreements ≤ Config.lineCounterMax
      ∧ c.markFaults ≤ Config.lineCounterMax ∧ c.readbackMismatches ≤ Config.lineCounterMax := by
  simp [LineCounters.inRange, and_assoc]

/-! ## What keeps both forms -/

/-- From one state to the other both forms are kept. -/
structure State.Upholds (s t : State) : Prop where
  roster : s.gauge.RosterForm → t.gauge.RosterForm
  range  : s.gauge.InRange → t.gauge.InRange

/-- The station, its address and its roster: what the roster's form reads. -/
def State.seat (s : State) : StationState × Option Addr × Roster :=
  (s.station, s.own, s.roster)

namespace State.Upholds

variable {s t u : State}

theorem refl (s : State) : s.Upholds s := ⟨id, id⟩

theorem trans (h : s.Upholds t) (h' : t.Upholds u) : s.Upholds u :=
  ⟨h'.roster ∘ h.roster, h'.range ∘ h.range⟩

/-- An operation that takes place on a condition. -/
theorem ite {c : Prop} [Decidable c] (h : c → s.Upholds t) (h' : ¬ c → s.Upholds u) :
    s.Upholds (if c then t else u) := by
  split
  · exact h ‹_›
  · exact h' ‹_›

/-- An operation that takes place on a condition, or not at all. -/
theorem when {c : Prop} [Decidable c] (h : s.Upholds t) : s.Upholds (if c then t else s) :=
  ite (fun _ => h) (fun _ => refl s)

/-- An operation on the rest of the station. -/
theorem of_gauge (h : t.gauge = s.gauge) : s.Upholds t :=
  ⟨fun hr => h ▸ hr, fun hr => h ▸ hr⟩

/-- An operation on the rest of the station, and then another. -/
theorem from_gauge (h : t.Upholds u) (hg : t.gauge = s.gauge) : s.Upholds u :=
  (of_gauge hg).trans h

/-- An operation on counts: station, address and roster stay. -/
theorem of_counts (h : t.seat = s.seat) (hrange : s.gauge.InRange → t.gauge.InRange) : s.Upholds t where
  roster hr := by
    obtain ⟨hst, hown, hroster⟩ : t.station = s.station ∧ t.own = s.own ∧ t.roster = s.roster := by
      simpa [State.seat] using h
    have hform : t.roster.Form := hroster ▸ hr.form
    have hmember : t.station = .synced → ∃ a, t.own = some a ∧ t.roster.role a = .member := by
      rw [hst, hown, hroster]
      exact hr.member
    exact ⟨hform, hmember⟩
  range := hrange

/-- An operation that leaves a station other than SYNCED. -/
theorem of_unsynced (hst : t.station ≠ .synced) (hroster : s.roster.Form → t.roster.Form)
    (hrange : s.gauge.InRange → t.gauge.InRange) : s.Upholds t where
  roster hr := ⟨hroster hr.form, fun h => absurd h hst⟩
  range := hrange

/-- An operation that leaves the own address MEMBER. -/
theorem of_member {own : Addr} (hown : t.own = some own) (hmember : t.roster.role own = .member)
    (hroster : s.roster.Form → t.roster.Form) (hrange : s.gauge.InRange → t.gauge.InRange) :
    s.Upholds t where
  roster hr := ⟨hroster hr.form, fun _ => ⟨own, hown, hmember⟩⟩
  range := hrange

/-- The send queue takes other entries. -/
theorem of_entries {l : List SendEntry} (h : t.gauge = { s.gauge with entries := l })
    (hattempts : s.gauge.InRange → ∀ e ∈ l, e.attempts ≤ 15)
    (htags : s.gauge.InRange → (l.map SendEntry.tag).Nodup) : s.Upholds t where
  roster hr := by
    rw [h]
    exact ⟨hr.form, hr.member⟩
  range hr := by
    rw [h]
    exact { hr with attempts := hattempts hr, tags := htags hr }

/-- Entries leave the send queue. -/
theorem of_filter {p : SendEntry → Bool}
    (h : t.gauge = { s.gauge with entries := s.sendQueue.entries.filter p }) : s.Upholds t :=
  of_entries h (fun hr e he => hr.attempts e (List.mem_filter.mp he).1)
    (fun hr => hr.tags.sublist (List.filter_sublist.map _))

/-- Entries of the send queue change, but for their tags, and their attempts stay in range. -/
theorem of_map {f : SendEntry → SendEntry}
    (h : t.gauge = { s.gauge with entries := s.sendQueue.entries.map f })
    (htag : ∀ e, (f e).tag = e.tag)
    (hattempts : s.gauge.InRange → ∀ e ∈ s.sendQueue.entries, (f e).attempts ≤ 15) : s.Upholds t :=
  of_entries h
    (fun hr e he => by
      obtain ⟨x, hx, rfl⟩ := List.mem_map.mp he
      exact hattempts hr x hx)
    (fun hr => by
      have hsame : SendEntry.tag ∘ f = SendEntry.tag := funext htag
      rw [List.map_map, hsame]
      exact hr.tags)

/-- A line counter is counted on. -/
theorem of_counters {c : LineCounters} (h : t.gauge = { s.gauge with counters := c })
    (hc : s.line.counters.inRange = true → c.inRange = true) : s.Upholds t where
  roster hr := by
    rw [h]
    exact ⟨hr.form, hr.member⟩
  range hr := by
    rw [h]
    exact { hr with counters := hc hr.counters }

end State.Upholds

end Sys2Proof.Machine
end

section
/-! SUPPORT. The shared operations keep the roster's form and the ranges: entries and counters, changes of local state,
owned bits, cycle marks, the points up to the message segment. -/

namespace Sys2Proof.Machine

open State.Upholds

/-! ## Entries and counters -/

theorem State.endEntry_upholds (s : State) (tag : Byte) (o : RequestOutcome) (position : Option Nat)
    (set : Option StationSet) (commit : Option (BitVec 16)) :
    s.Upholds (s.endEntry tag o position set commit) := by
  unfold State.endEntry
  split
  · exact of_filter rfl
  · exact refl s

/-- The entry of a tag takes another entry state. -/
theorem State.setEntryState_upholds (s : State) (tag : Byte) (st : EntryState) :
    s.Upholds (s.setSendQueue (s.sendQueue.change tag (fun e => { e with state := st }))) := by
  refine of_map rfl (fun e => ?_) (fun hr e he => ?_)
  · split <;> rfl
  · split <;> exact hr.attempts e he

theorem State.dropFlight_upholds (s : State) : s.Upholds s.dropFlight :=
  of_map rfl (fun _ => rfl) fun hr => hr.attempts

theorem State.countCommit_upholds (s : State) : s.Upholds s.countCommit :=
  of_counters rfl fun h => by
    simp_all [State.countCommit, LineCounters.inRange_iff, lineCount, saturate_le]

theorem State.countCrcError_upholds (s : State) : s.Upholds s.countCrcError :=
  of_counters rfl fun h => by
    simp_all [State.countCrcError, LineCounters.inRange_iff, lineCount, saturate_le]

theorem State.countArbitrationLoss_upholds (s : State) : s.Upholds s.countArbitrationLoss :=
  of_counters rfl fun h => by
    simp_all [State.countArbitrationLoss, LineCounters.inRange_iff, lineCount, saturate_le]

theorem State.countDisagreement_upholds (s : State) : s.Upholds s.countDisagreement :=
  of_counters rfl fun h => by
    simp_all [State.countDisagreement, LineCounters.inRange_iff, lineCount, saturate_le]

theorem State.countMarkFault_upholds (s : State) : s.Upholds s.countMarkFault :=
  of_counters rfl fun h => by
    simp_all [State.countMarkFault, LineCounters.inRange_iff, lineCount, saturate_le]

theorem State.countMismatch_upholds (s : State) : s.Upholds s.countMismatch :=
  of_counters rfl fun h => by
    simp_all [State.countMismatch, LineCounters.inRange_iff, lineCount, saturate_le]

theorem State.runHoldOffs_upholds (s : State) : s.Upholds s.runHoldOffs := by
  unfold State.runHoldOffs
  split
  · exact of_counts rfl fun h => { h with seekHold := (Nat.sub_le _ 1).trans h.seekHold }
  · exact of_counts rfl fun h => { h with snapHold := (Nat.sub_le _ 1).trans h.snapHold }
  all_goals exact refl s

/-! ## The cycle position -/

theorem State.setPosition_upholds (s : State) {p : CyclePosition} (hp : p.inRange = true) :
    s.Upholds (s.setPosition p) :=
  of_counts rfl fun h => { h with position := hp }

theorem CyclePosition.advanceTo_inRange {p : CyclePosition} (h : p.inRange = true) (bit : Fin 512) :
    (p.advanceTo bit).inRange = true := by
  cases p with
  | bit n =>
    unfold CyclePosition.advanceTo
    dsimp only
    split <;> rfl
  | waiting | due | stretch n => exact h

theorem State.makePoint_upholds (s : State) (p : CyclePoint) (bit : Fin 512) :
    s.Upholds (s.makePoint p bit) :=
  of_counts rfl fun h => { h with position := CyclePosition.advanceTo_inRange h.position bit }

theorem State.misreadBit_upholds (s : State) (bit : Fin 512) : s.Upholds (s.misreadBit bit) :=
  of_counts rfl fun h => { h with position := CyclePosition.advanceTo_inRange h.position bit }

/-! ## Changes of local state -/

theorem Monitor.leave_inRange {m : Monitor} (h : ∀ a, (m.peers.get a).InRange) (a : Addr) :
    (m.leave.peers.get a).InRange :=
  tabulate_inRange (fun a => (h a).mismatch_zero.refuse false) a

theorem Monitor.noMismatch_inRange {m : Monitor} (h : ∀ a, (m.peers.get a).InRange) (a : Addr) :
    (m.noMismatch.peers.get a).InRange :=
  tabulate_inRange (fun a => (h a).mismatch_zero) a

/-- R102: on entry to SEEKING nothing of a cluster is held. -/
theorem State.beginSeeking_upholds {s : State} (h : s.station ≠ .synced) : s.Upholds s.beginSeeking :=
  of_unsynced h (fun _ => Roster.cleared_form) fun hr =>
    { hr with formation := Nat.zero_le _, seekHold := Nat.zero_le _ }

/-- A change of local state alone, to a state other than SYNCED: the stall count, which only DOUBT may hold at its
limit, came from none or goes to none. -/
theorem State.changeStation_upholds {s : State} {st : StationState} (reason : StateReason) (held : Nat)
    (hst : st ≠ .synced) (hs : s.station ≠ .doubt) : s.Upholds (s.changeStation st reason held) :=
  of_unsynced hst id fun hr => { hr with stallBelow := .inr (hr.stall_lt hs) }

/-- R109: a departure clears the counts of the transfer, whatever the stall count was. -/
theorem State.depart_upholds_of_stall (s : State) (n : Nat) {st : StationState} (reason : StateReason)
    (hst : st ≠ .synced) :
    s.Upholds ((s.setSnapshot { s.snapshot with stall := n }).depart st reason) :=
  of_unsynced hst (fun _ => Roster.cleared_form) fun hr =>
    { hr with
      formation := Nat.zero_le _
      peers := Monitor.leave_inRange hr.peers
      divergence := divergenceLimit_pos
      loaded := Nat.zero_le _
      stall := Nat.zero_le _
      stallBelow := .inr stallLimit_pos
      seekHold := Nat.zero_le _
      snapHold := Nat.zero_le _
      attempts := fun _ he => absurd he List.not_mem_nil
      tags := List.nodup_nil }

theorem State.rejoin_upholds {s : State} (h : s.station = .standby) (old : StationState) :
    s.Upholds (s.rejoin old) :=
  when ((State.changeStation_upholds _ _ (by simp) (by simp [h])).trans
    (State.beginSeeking_upholds (by simp)))

theorem State.arriveStandby_upholds_of_stall (s : State) (n : Nat) (reason : StateReason) :
    s.Upholds ((s.setSnapshot { s.snapshot with stall := n }).arriveStandby reason) :=
  (s.depart_upholds_of_stall n reason (by simp)).trans (State.rejoin_upholds rfl _)

theorem State.backToSeeking_upholds_of_stall (s : State) (n : Nat) (reason : StateReason) :
    s.Upholds ((s.setSnapshot { s.snapshot with stall := n }).backToSeeking reason) :=
  (s.depart_upholds_of_stall n reason (st := .seeking) (by simp)).trans
    (State.beginSeeking_upholds (by intro h; cases h))

theorem State.arriveStandby_upholds (s : State) (reason : StateReason) :
    s.Upholds (s.arriveStandby reason) :=
  s.arriveStandby_upholds_of_stall s.snapshot.stall reason

theorem State.backToSeeking_upholds (s : State) (reason : StateReason) :
    s.Upholds (s.backToSeeking reason) :=
  s.backToSeeking_upholds_of_stall s.snapshot.stall reason

theorem State.enterFaulted_upholds (s : State) (reason : StateReason) :
    s.Upholds (s.enterFaulted reason) :=
  of_unsynced (by intro h; cases h) (fun _ => Roster.cleared_form) fun hr =>
    { hr with
      formation := Nat.zero_le _
      peers := peers_cleared_inRange
      divergence := divergenceLimit_pos
      loaded := Nat.zero_le _
      stall := Nat.zero_le _
      stallBelow := .inr stallLimit_pos
      seekHold := Nat.zero_le _
      snapHold := Nat.zero_le _
      runCount := readbackLimit_pos
      attempts := fun _ he => absurd he List.not_mem_nil
      tags := List.nodup_nil }

/-- R113: DOUBT keeps the counts of the transfer. -/
theorem State.enterDoubt_upholds (s : State) (reason : StateReason) : s.Upholds (s.enterDoubt reason) :=
  of_unsynced (by intro h; cases h) id fun hr =>
    { hr with
      peers := Monitor.noMismatch_inRange hr.peers
      divergence := divergenceLimit_pos
      stallBelow := .inl rfl
      seekHold := Nat.zero_le _
      snapHold := Nat.zero_le _
      attempts := fun _ he => absurd he List.not_mem_nil
      tags := List.nodup_nil }

/-- R106: the ranges on entry to SYNCED, where every count begins at 0. -/
theorem State.enterSynced_inRange {s : State} (reason : StateReason) (hr : s.gauge.InRange) :
    (s.enterSynced reason).gauge.InRange :=
  { hr with
    formation := Nat.zero_le _
    divergence := divergenceLimit_pos
    loaded := Nat.zero_le _
    stall := Nat.zero_le _
    stallBelow := .inr stallLimit_pos
    seekHold := Nat.zero_le _
    snapHold := Nat.zero_le _
    attempts := fun _ he => absurd he List.not_mem_nil
    tags := List.nodup_nil }

theorem State.enterJoining_upholds (s : State) : s.Upholds s.enterJoining :=
  of_unsynced (by intro h; cases h) id fun hr =>
    { hr with
      formation := Nat.zero_le _
      loaded := Nat.zero_le _
      stall := Nat.zero_le _
      stallBelow := .inr stallLimit_pos
      seekHold := Nat.zero_le _ }

/-! ## Stall -/

/-- An acquiring station is JOINING or LEAVING. -/
theorem State.station_of_acquiring {s : State} (h : s.acquiring = true) :
    s.station = .joining ∨ s.station = .leaving := by
  unfold State.acquiring at h
  split at h <;> simp_all

theorem State.unsynced_of_acquiring {s : State} (h : s.acquiring = true) : s.station ≠ .synced := by
  rcases State.station_of_acquiring h with hst | hst <;> simp [hst]

/-- R91: a count that reaches the limit is cleared by the join stall it brings. -/
theorem State.stallOut_upholds {s : State} (h : s.acquiring = true) : s.Upholds s.countStall.joinStall := by
  rcases State.station_of_acquiring h with hst | hst
  · have hstall : s.countStall.joinStall = s.countStall.backToSeeking .joinStall := by
      have hst' : s.countStall.station = .joining := hst
      simp [State.joinStall, hst']
    rw [hstall]
    exact s.backToSeeking_upholds_of_stall _ _
  · have hstall : s.countStall.joinStall = s.countStall.arriveStandby .joinStall := by
      have hst' : s.countStall.station = .leaving := hst
      simp [State.joinStall, hst']
    rw [hstall]
    exact s.arriveStandby_upholds_of_stall _ _

/-- R91: a count that does not reach the limit. -/
theorem State.countStall_upholds {s : State} (h : s.station = .doubt ∨ s.snapshot.stall + 1 < Config.stallLimit) :
    s.Upholds s.countStall :=
  of_counts rfl fun hr =>
    { hr with
      stall := saturate_le _ _
      stallBelow := h.imp_right fun hlt => (Nat.min_le_left _ _).trans_lt hlt }

theorem State.stallStep_upholds (s : State) : s.Upholds s.stallStep := by
  refine ite (fun hdue => ?_) fun hnot => ?_
  · simp only [State.stallDue, Bool.and_eq_true] at hdue
    exact State.stallOut_upholds hdue.1
  · unfold State.stallDue at hnot
    split
    · rename_i hacq
      exact State.countStall_upholds (.inr (by simpa [hacq] using hnot))
    · exact refl s

/-! ## Owned bits -/

/-- A run count that is a lower one, or 0. -/
theorem State.setRun_upholds (s : State) {n : Nat} (pending : Bool)
    (hn : s.line.runCount < Config.readbackLimit → n < Config.readbackLimit) :
    s.Upholds (s.setLine { s.line with runCount := n, cleanPending := pending }) :=
  of_counts rfl fun hr => { hr with runCount := hn hr.runCount }

theorem State.clearRun_upholds (s : State) : s.Upholds s.clearRun :=
  s.setRun_upholds false fun _ => readbackLimit_pos

theorem State.settleRun_upholds (s : State) : s.Upholds s.settleRun :=
  when s.clearRun_upholds

theorem State.cleanSlot_upholds (s : State) : s.Upholds s.cleanSlot :=
  ite (fun _ => refl s) fun _ => ite (fun _ => of_gauge rfl) fun _ => s.clearRun_upholds

/-- R145: the third mismatch in a row faults the station, which clears the run count. -/
theorem State.ownedMismatch_upholds (s : State) : s.Upholds s.ownedMismatch := by
  unfold State.ownedMismatch
  split
  · exact refl s
  · dsimp only
    split
    · exact ((s.enterFaulted_upholds .readbackFault).trans (State.countMismatch_upholds _)).trans
        (of_gauge rfl)
    · rename_i hbelow
      refine s.countMismatch_upholds.trans (of_counts rfl fun hr => { hr with runCount := ?_ })
      exact (Nat.min_le_left _ _).trans_lt (Nat.lt_of_not_le hbelow)

theorem State.readBackSlot_upholds (s : State) (slots : Slots) : s.Upholds (s.readBackSlot slots) := by
  unfold State.readBackSlot
  split
  · exact when (ite (fun _ => s.cleanSlot_upholds) (fun _ => s.ownedMismatch_upholds))
  · exact refl s

theorem State.readBackVerdict_upholds (s : State) (a b : VerdictCopy) :
    s.Upholds (s.readBackVerdict a b) := by
  unfold State.readBackVerdict
  split
  · exact ite (fun _ => s.settleRun_upholds) fun _ => ite (fun _ => s.ownedMismatch_upholds) fun _ =>
      ite (fun _ => refl s) (fun _ => s.clearRun_upholds)
  · exact refl s

theorem State.mismatchOwned_upholds (s : State) (bit : Fin 512) : s.Upholds (s.mismatchOwned bit) :=
  when ((s.misreadBit_upholds bit).trans (State.ownedMismatch_upholds _))

/-! ## Cycle marks -/

theorem State.runAtEnd_lt {s : State} (h : s.line.runCount < Config.readbackLimit) :
    s.runAtEnd < Config.readbackLimit := by
  unfold State.runAtEnd
  split
  · exact readbackLimit_pos
  · exact h

theorem State.openCycle_upholds (s : State) : s.Upholds s.openCycle :=
  of_counts rfl fun hr => { hr with position := rfl, runCount := State.runAtEnd_lt hr.runCount }

theorem State.beginCycle_upholds (s : State) : s.Upholds s.beginCycle :=
  s.openCycle_upholds.trans (of_gauge rfl)

theorem State.reachCut_upholds (s : State) (bit : Fin 512) (claimStart : Level) :
    s.Upholds (s.reachCut bit claimStart) :=
  s.countMarkFault_upholds.trans (of_counts rfl fun hr => { hr with position := rfl })

theorem State.cutHoldOffs_upholds (s : State) : s.Upholds s.cutHoldOffs :=
  ite (fun _ => refl s) (fun _ => s.runHoldOffs_upholds)

theorem State.cutStall_upholds (s : State) : s.Upholds s.cutStall :=
  ite (fun _ => refl s) (fun _ => s.stallStep_upholds)

/-- R91, R112: the cycle more that the stall count of a cut may take is DOUBT's to keep. -/
theorem State.doubtAtCut_upholds (s : State) : s.Upholds s.doubtAtCut := by
  unfold State.doubtAtCut
  split
  · exact ((s.enterDoubt_upholds .markFault).trans (State.countStall_upholds (.inl rfl))).trans
      (of_gauge rfl)
  · exact s.enterDoubt_upholds _

theorem State.cutCycle_upholds (s : State) (bit : Fin 512) (claimStart : Level) :
    s.Upholds (s.cutCycle bit claimStart) :=
  ((s.reachCut_upholds bit claimStart).trans (State.cutHoldOffs_upholds _)).trans
    (ite (fun _ => State.doubtAtCut_upholds _) fun _ =>
      (State.dropFlight_upholds _).trans (State.cutStall_upholds _))

theorem State.takeEarlyMark_upholds (s : State) (bit : Fin 512) (claimStart : Level) :
    s.Upholds (s.takeEarlyMark bit claimStart) :=
  ite (fun _ => (s.cutCycle_upholds bit claimStart).trans (State.beginCycle_upholds _))
    (fun _ => s.beginCycle_upholds)

theorem State.takeTimelyMark_upholds (s : State) : s.Upholds s.takeTimelyMark :=
  ite (fun _ => (s.cutCycle_upholds _ _).trans (State.beginCycle_upholds _))
    (fun _ => s.beginCycle_upholds)

theorem State.takeMark_upholds (s : State) (m : Mark) : s.Upholds (s.takeMark m) := by
  cases m with
  | timely => exact s.takeTimelyMark_upholds
  | early bit claimStart => exact s.takeEarlyMark_upholds bit claimStart

theorem State.loseMark_upholds (s : State) : s.Upholds s.loseMark := by
  unfold State.loseMark
  refine ite (fun _ => refl s) fun _ => s.countMarkFault_upholds.trans (State.Upholds.trans
    (ite (fun _ => State.enterDoubt_upholds _ .markFault) fun _ => State.dropFlight_upholds _)
    (of_counts rfl fun hr => { hr with position := rfl, runCount := State.runAtEnd_lt hr.runCount }))

/-! ## The status point -/

theorem State.watchSlots_upholds (s : State) (slots : Slots) : s.Upholds (s.watchSlots slots) :=
  of_counts rfl fun hr =>
    { hr with peers := tabulate_inRange fun a => (hr.peers a).watchSlot _ }

theorem State.countSlots_upholds (s : State) (slots : Slots) : s.Upholds (s.countSlots slots) :=
  ite
    (fun _ => of_counts rfl fun hr =>
      { hr with
        peers := tabulate_inRange fun a => ⟨(hr.peers a).silence, mismatchSlot_le _ (hr.peers a) _⟩ })
    (fun _ => of_counts rfl fun hr => { hr with peers := Monitor.noMismatch_inRange hr.peers })

theorem State.readStatus_upholds (s : State) (slots : Slots) : s.Upholds (s.readStatus slots) :=
  ((s.makePoint_upholds .status 255).trans (State.readBackSlot_upholds _ slots)).trans
    (when ((State.watchSlots_upholds _ slots).trans (State.countSlots_upholds _ slots)))

theorem State.listenStep_upholds (s : State) (slots : Slots) : s.Upholds (s.listenStep slots) := by
  unfold State.listenStep
  split
  · refine ite (fun hlt => ?_) (fun _ => refl s)
    exact ite (fun _ => s.enterFaulted_upholds _) fun _ => of_counts rfl fun hr => { hr with listen := hlt }
  · exact refl s

theorem State.seekStep_upholds (s : State) : s.Upholds s.seekStep :=
  ite (fun _ => of_counts rfl fun hr => { hr with formation := saturate_le _ _ })
    (fun _ => of_counts rfl fun hr => { hr with formation := Nat.zero_le _ })

/-- R73: a divergence count that reaches its limit brings DOUBT, which clears it. -/
theorem State.syncedStep_upholds (s : State) (slots : Slots) : s.Upholds (s.syncedStep slots) := by
  refine ite (fun _ => (s.enterDoubt_upholds .divergence).trans (of_gauge rfl)) fun hbelow => ?_
  exact of_counts rfl fun hr => { hr with divergence := Nat.lt_of_not_le hbelow }

theorem State.actOnStatus_upholds (s : State) (slots : Slots) : s.Upholds (s.actOnStatus slots) := by
  unfold State.actOnStatus
  split
  · exact s.listenStep_upholds slots
  · exact s.seekStep_upholds
  · exact s.syncedStep_upholds slots
  all_goals exact refl s

theorem State.takeStatus_upholds (s : State) (slots : Slots) : s.Upholds (s.takeStatus slots) :=
  when ((s.readStatus_upholds slots).trans (State.actOnStatus_upholds _ slots))

/-! ## The selection point and the claim segment -/

theorem State.formDuties_upholds (s : State) : s.Upholds s.formDuties := by
  unfold State.formDuties
  split <;> exact of_gauge rfl

theorem State.offer_upholds (s : State) (own : Addr) (source : Source) :
    s.Upholds (s.offer own source) := by
  cases source with
  | entry tag =>
    exact (s.setEntryState_upholds tag .inFlight).trans (of_gauge rfl)
  | urgent duty | sync duty => exact of_gauge rfl

theorem State.offerChoice_upholds (s : State) : s.Upholds s.offerChoice := by
  unfold State.offerChoice
  split
  · exact s.offer_upholds _ _
  · exact refl s

theorem State.takeSelection_upholds (s : State) : s.Upholds s.takeSelection :=
  when (((s.makePoint_upholds .selection 260).trans (State.formDuties_upholds _)).trans
    (State.offerChoice_upholds _))

theorem State.returnEntry_upholds (s : State) (tag : Byte) : s.Upholds (s.returnEntry tag) :=
  ite (fun _ => s.endEntry_upholds _ _ _ _ _) (fun _ => s.setEntryState_upholds tag .waiting)

theorem State.giveUpClaim_upholds (s : State) : s.Upholds s.giveUpClaim := by
  unfold State.giveUpClaim
  split
  · dsimp only
    split
    · exact (State.returnEntry_upholds _ _).from_gauge rfl
    · exact of_gauge rfl
    · exact of_gauge rfl
  · exact refl s

theorem State.loseClaim_upholds (s : State) : s.Upholds s.loseClaim :=
  s.countArbitrationLoss_upholds.trans (State.giveUpClaim_upholds _)

theorem State.faultClaim_upholds (s : State) : s.Upholds s.faultClaim :=
  s.countMismatch_upholds.trans (State.giveUpClaim_upholds _)

theorem State.judgeClaim_upholds (s : State) (read : ClaimRead) : s.Upholds (s.judgeClaim read) := by
  unfold State.judgeClaim
  split
  · split
    · exact of_gauge rfl
    · exact s.loseClaim_upholds
    · exact s.faultClaim_upholds
  · exact refl s

theorem State.takeClaim_upholds (s : State) (read : ClaimRead) : s.Upholds (s.takeClaim read) := by
  have hheld : s.Upholds ((s.makePoint .claim 266).holdClaim read) :=
    (s.makePoint_upholds .claim 266).trans (of_gauge rfl)
  have hjudged := hheld.trans (State.judgeClaim_upholds _ read)
  exact when (ite (fun _ => hjudged.trans (State.settleRun_upholds _)) (fun _ => hjudged))

theorem State.loseAt_upholds (s : State) (bit : Fin 7) : s.Upholds (s.loseAt bit) := by
  unfold State.loseAt
  split
  · exact when ((s.misreadBit_upholds _).trans (State.loseClaim_upholds _))
  · exact refl s

theorem State.faultAt_upholds (s : State) (bit : Fin 7) : s.Upholds (s.faultAt bit) := by
  unfold State.faultAt
  split
  · exact when ((s.misreadBit_upholds _).trans (State.faultClaim_upholds _))
  · exact refl s

/-! ## The message segment -/

theorem State.mismatchMessage_upholds (s : State) (m : InFlight) (bit : Fin 160) :
    s.Upholds (s.mismatchMessage m bit) :=
  s.countMismatch_upholds.trans (of_gauge rfl)

theorem State.mismatchAt_upholds (s : State) (bit : Fin 160) : s.Upholds (s.mismatchAt bit) := by
  unfold State.mismatchAt
  split
  · exact when ((s.misreadBit_upholds _).trans (State.mismatchMessage_upholds _ _ _))
  · exact refl s

theorem State.readBackMessage_upholds (s : State) (m : MessageBytes) :
    s.Upholds (s.readBackMessage m) := by
  unfold State.readBackMessage
  split
  · split
    · exact s.mismatchMessage_upholds _ _
    · exact refl s
  · exact refl s

theorem State.receive_upholds (s : State) (m : MessageBytes) : s.Upholds (s.receive m) :=
  ite (fun _ => of_gauge rfl) fun _ => (State.countCrcError_upholds _).from_gauge rfl

theorem State.takeStance_upholds (s : State) (m : MessageBytes) (intact : Bool) :
    s.Upholds (s.takeStance m intact) :=
  of_gauge (by rw [State.takeStance_shape]; rfl)

theorem State.takeMessage_upholds (s : State) (m : MessageBytes) : s.Upholds (s.takeMessage m) :=
  when ((s.makePoint_upholds .message 431).trans (when ((State.readBackMessage_upholds _ m).trans
    ((State.receive_upholds _ m).trans (State.takeStance_upholds _ m _)))))

end Sys2Proof.Machine
end

section
/-! SUPPORT. The commits, the verdict point and the commands keep the roster's form and the ranges; the statements
about the roster's form and about the ranges settled. -/

namespace Sys2Proof.Machine

open State.Upholds

/-! ## A committed message -/

/-- The address a committed message takes out of the roster, if any (R62, R63). -/
def Body.removes (sender : Addr) (b : Body) : Option Addr :=
  match b with
  | .leave _ => some sender
  | .evict target _ => some target
  | _ => none

/-- A MEMBER that a committed message does not remove stays one. -/
theorem Roster.Form.member_rosterEffect {r : Roster} (h : r.Form) {x sender : Addr} {b : Body}
    (hx : r.role x = .member) (hb : b.removes sender ≠ some x) :
    (Machine.rosterEffect r sender b).role x = .member := by
  cases b with
  | joinReq => exact Roster.member_applyJoinReq hx sender
  | snap index content => exact h.member_applySnap hx _
  | leave reason => exact h.member_remove hx fun e => hb (congrArg some e.symm)
  | evict target reason => exact h.member_remove hx fun e => hb (congrArg some e.symm)
  | found | claim | renew | release | cancel | note => exact hx

/-- R71: clearing a refused mark changes no count. -/
theorem clearRefused_inRange {m : Monitor} (before after : Roster) (h : ∀ a, (m.peers.get a).InRange)
    (a : Addr) : ((clearRefused m before after).peers.get a).InRange := by
  refine tabulate_inRange (fun a => ?_) a
  split
  · exact h a
  · exact (h a).refuse false

/-- R50 step 1: the membership effect of a message that does not remove this station. -/
theorem State.commitRoster_upholds {s : State} (sender : Addr) {b : Body}
    (hb : ∀ x, s.own = some x → b.removes sender ≠ some x) : s.Upholds (s.commitRoster sender b) where
  roster hr := by
    have hform : s.roster.advance.Form := hr.form.advance
    refine ⟨hform.rosterEffect sender b, fun hst => ?_⟩
    obtain ⟨own, hown, hmember⟩ := hr.member hst
    exact ⟨own, hown, hform.member_rosterEffect hmember (hb own hown)⟩
  range hr := { hr with peers := clearRefused_inRange _ _ hr.peers }

theorem State.endCommitted_upholds (s : State) (tag : Byte) (o : ZoneOutcome) :
    s.Upholds (s.endCommitted tag o) := by
  unfold State.endCommitted
  split
  · exact of_filter rfl
  · exact refl s

theorem State.endDuty_upholds (s : State) (source : Source) : s.Upholds (s.endDuty source) := by
  cases source <;> exact of_gauge rfl

theorem State.senderCommitted_upholds (s : State) (before : ZoneTable) (sender : Addr) (b : Body) :
    s.Upholds (s.senderCommitted before sender b) := by
  unfold State.senderCommitted
  split
  · split
    · split
      · exact s.endCommitted_upholds _ _
      · exact refl s
      · exact s.endDuty_upholds _
      · exact s.endDuty_upholds _
    · exact refl s
  · exact refl s

theorem State.deliver_upholds (s : State) (sender : Addr) (b : Body) : s.Upholds (s.deliver sender b) := by
  unfold State.deliver
  split
  · exact when (of_gauge rfl)
  all_goals exact refl s

theorem State.applyMessage_upholds {s : State} {sender : Addr} {b : Body}
    (hb : ∀ x, s.own = some x → b.removes sender ≠ some x) : s.Upholds (s.applyMessage sender b) := by
  have hroster := State.commitRoster_upholds sender hb
  have hzones : (s.commitRoster sender b).Upholds ((s.commitRoster sender b).setZones
      (changedEntries (s.zoneChanges (zoneEffect s.roster sender b)))) := of_gauge rfl
  have hreport (t : State) (changes : Vector ZoneChange 64) : t.Upholds (t.reportZones s.zones changes) :=
    of_gauge rfl
  exact (hroster.trans hzones).trans ((State.senderCommitted_upholds _ s.zones sender b).trans
    ((hreport _ _).trans (State.deliver_upholds _ sender b)))

/-! ## A joiner's commits -/

/-- R189: the content of a roster block that passes its test carries a roster of its form. -/
theorem blockRoster_form {content : List Byte} (h : rosterBlockValid content = true) :
    (blockRoster content).Form := by
  simp only [rosterBlockValid, Bool.and_eq_true, beq_iff_eq] at h
  obtain ⟨⟨⟨⟨-, hcount⟩, -⟩, hqueue⟩, hprogress⟩ := h
  obtain ⟨hnodup, hqueued⟩ := (blockRoster content).queueFits_iff.mp hqueue
  have hone : (blockRoster content).oneJoiner = true := by simp [Roster.oneJoiner, hcount]
  have hp : (blockRoster content).progress = some 0 := by
    rw [blockRoster, hprogress]
    rfl
  refine ⟨(blockRoster content).oneJoiner_iff.mp hone, hnodup, hqueued, fun _ _ => ⟨0, hp, Nat.zero_le _⟩,
    fun hidle => ?_⟩
  have hzero : countAddrs (fun a => (blockRoster content).role a == .joining) = 0 := by
    simp [countAddrs, hidle]
  rw [hcount] at hzero
  cases hzero

/-- R84: a station that is not SYNCED loads a roster block. -/
theorem State.loadRoster_upholds {s : State} (h : s.station ≠ .synced) (content : List Byte) :
    s.Upholds (s.loadRoster content) := by
  unfold State.loadRoster
  split
  · rename_i hvalid
    exact of_unsynced h (fun _ => (blockRoster_form hvalid).advance.applySnap 0)
      fun hr => { hr with loaded := Nat.succ_le_succ (Nat.zero_le _) }
  · exact refl s

theorem State.loadZone_upholds (s : State) (index : Nat) (content : List Byte) :
    s.Upholds (s.loadZone index content) := by
  unfold State.loadZone
  split
  · exact when (of_gauge rfl)
  · exact refl s

/-- R88: the joiner that a SNAP has made MEMBER. -/
theorem State.completeTransfer_upholds (s : State) : s.Upholds s.completeTransfer := by
  unfold State.completeTransfer
  split
  · rename_i hmember
    obtain ⟨own, hown, hrole⟩ := s.ownRole_eq_member_iff.mp hmember
    split
    · exact of_member (own := own) hown hrole id (State.enterSynced_inRange _)
    · exact of_counts rfl fun hr =>
        { hr with loaded := Nat.zero_le _, stall := Nat.zero_le _, stallBelow := .inr stallLimit_pos }
    all_goals exact refl s
  · exact refl s

theorem State.nextBlock_upholds (s : State) (sender : Addr) {index : Nat} (content : List Byte)
    (hindex : index ≤ Config.lastBlock) : s.Upholds (s.nextBlock sender index content) := by
  have hloaded (t : State) : t.Upholds (t.setSnapshot { t.snapshot with loaded := index + 1 }) :=
    of_counts rfl fun hr => { hr with loaded := Nat.succ_le_succ hindex }
  have hcommit (t : State) : t.Upholds (t.commitRoster sender (.snap (natByte index) content)) :=
    State.commitRoster_upholds sender fun _ _ h => by cases h
  exact ((s.loadZone_upholds index content).trans ((hloaded _).trans (hcommit _))).trans
    (State.completeTransfer_upholds _)

theorem State.joinerSnap_upholds {s : State} (h : s.station ≠ .synced) (sender : Addr) (index : Nat)
    (content : List Byte) : s.Upholds (s.joinerSnap sender index content) := by
  have hgap : s.Upholds (s.enterDoubt .snapshotGap) := s.enterDoubt_upholds _
  refine ite (fun _ => ite (fun _ => ?own) (fun _ => ?other)) (fun _ => ?noRoster)
  case own =>
    refine ite (fun hnext => s.nextBlock_upholds sender content hnext.2) fun _ =>
      ite (fun _ => ?_) (fun _ => hgap)
    exact ite (fun _ => State.loadRoster_upholds h content) (fun _ => s.loadZone_upholds index content)
  case other =>
    exact ite (fun _ => State.commitRoster_upholds sender fun _ _ hx => by cases hx) fun _ =>
      ite (fun _ => State.loadRoster_upholds h content) (fun _ => hgap)
  case noRoster =>
    unfold State.firstBlock
    split
    · exact when (State.loadRoster_upholds h content)
    · exact refl s

theorem State.leaveDissolved_upholds (s : State) (before : Roster) :
    s.Upholds (s.leaveDissolved before) := by
  unfold State.leaveDissolved
  refine ite (fun _ => ?_) (fun _ => refl s)
  split
  · exact s.backToSeeking_upholds _
  · exact s.arriveStandby_upholds _
  all_goals exact refl s

/-! ## Commits by local state -/

theorem State.plainCommit_upholds {s : State} {sender : Addr} {b : Body}
    (hb : ∀ x, s.own = some x → b.removes sender ≠ some x) : s.Upholds (s.plainCommit sender b) :=
  ite (fun _ => when ((State.applyMessage_upholds hb).trans (State.leaveDissolved_upholds _ _)))
    (fun _ => State.applyMessage_upholds hb)

theorem State.evicted_upholds (s : State) (reason : Byte) : s.Upholds (s.evicted reason) := by
  have hreason : s.Upholds (s.setController
      { s.controller with lastEviction := EvictReason.ofCode reason.toNat }) :=
    of_counts rfl fun hr => { hr with }
  exact hreason.trans (State.arriveStandby_upholds _ .evicted)

/-- An address that is not this station's. -/
theorem State.own_ne_of_not_isOwn {s : State} {a : Addr} (h : ¬ s.isOwn a = true) (x : Addr)
    (hx : s.own = some x) : some a ≠ some x := fun e => h (by simp [State.isOwn, hx, e])

/-- A commit that removes this station makes it depart; every other one is applied. -/
theorem State.clusterCommit_upholds (s : State) (sender : Addr) (b : Body) :
    s.Upholds (s.clusterCommit sender b) := by
  cases b with
  | found => exact refl s
  | leave reason =>
    exact ite (fun _ => s.arriveStandby_upholds _) fun hnot =>
      State.plainCommit_upholds (State.own_ne_of_not_isOwn hnot)
  | evict target reason =>
    exact ite (fun _ => s.evicted_upholds _) fun hnot =>
      State.plainCommit_upholds (State.own_ne_of_not_isOwn hnot)
  | snap index content =>
    exact ite (fun hacq => State.joinerSnap_upholds (State.unsynced_of_acquiring hacq) sender _ _)
      fun _ => State.applyMessage_upholds fun _ _ hx => by cases hx
  | joinReq | claim | renew | release | cancel | note =>
    exact State.plainCommit_upholds fun _ _ hx => by cases hx

theorem State.doubtCommit_upholds (s : State) (sender : Addr) (b : Body) :
    s.Upholds (s.doubtCommit sender b) := by
  unfold State.doubtCommit
  split
  · exact when (s.arriveStandby_upholds _)
  · exact when (s.evicted_upholds _)
  all_goals exact refl s

/-- R59: the own FOUND makes this station the only MEMBER. -/
theorem State.foundCommitted_upholds {s : State} {own : Addr} (hown : s.own = some own) :
    s.Upholds (s.foundCommitted own) := by
  have hmember : (Roster.cleared.found own).role own = .member :=
    Roster.role_setRole_self Roster.cleared.advance own .member
  have hrange : s.gauge.InRange →
      ((s.setRoster (Roster.cleared.found own)).setZones ZoneTable.cleared).gauge.InRange :=
    fun hr => { hr with }
  exact of_member hown hmember (fun _ => Roster.found_form own) fun hr =>
    State.enterSynced_inRange .formed (hrange hr)

theorem State.seekingCommit_upholds (s : State) (b : Body) : s.Upholds (s.seekingCommit b) := by
  unfold State.seekingCommit
  split
  · exact State.foundCommitted_upholds ‹_›
  · exact s.enterJoining_upholds
  · exact refl s

theorem State.intactCommit_upholds (s : State) (sender : Addr) (b : Body) :
    s.Upholds (s.intactCommit sender b) := by
  unfold State.intactCommit
  split
  · exact s.seekingCommit_upholds b
  · exact s.doubtCommit_upholds sender b
  · exact s.clusterCommit_upholds sender b
  · exact s.clusterCommit_upholds sender b
  · exact s.clusterCommit_upholds sender b
  all_goals exact refl s

theorem State.damagedCommit_upholds (s : State) : s.Upholds s.damagedCommit := by
  unfold State.damagedCommit
  split
  · exact State.foundCommitted_upholds ‹_›
  · exact when (s.arriveStandby_upholds _)
  · exact when (s.enterDoubt_upholds _)

theorem State.onCommitted_upholds (s : State) : s.Upholds s.onCommitted := by
  unfold State.onCommitted
  split
  · exact s.countCommit_upholds.trans (State.intactCommit_upholds _ _ _)
  · exact s.countCommit_upholds.trans (State.damagedCommit_upholds _)

/-! ## The verdict point -/

theorem State.readVerdict_upholds (s : State) (a b : VerdictCopy) : s.Upholds (s.readVerdict a b) := by
  have hcopies (t : State) : t.Upholds
      (if t.line.claimActive then t.setVerdict { t.verdict with copyA := a, copyB := b } else t) :=
    when (of_gauge rfl)
  exact (s.makePoint_upholds .verdict 499).trans
    ((hcopies _).trans (State.readBackVerdict_upholds _ a b))

theorem State.reachVerdict_upholds (s : State) (a b : VerdictCopy) : s.Upholds (s.reachVerdict a b) := by
  have hserved (t : State) : t.Upholds t.clearServed := when (of_gauge rfl)
  have hcopies (t : State) : t.Upholds (t.compareCopies a b) := when t.countDisagreement_upholds
  exact (s.readVerdict_upholds a b).trans
    ((hcopies _).trans ((State.runHoldOffs_upholds _).trans (hserved _)))

/-- R130: a refused mark changes no count. -/
theorem Monitor.refuse_inRange {m : Monitor} (target : Addr) (h : ∀ a, (m.peers.get a).InRange) (a : Addr) :
    ((m.refuse target).peers.get a).InRange := by
  by_cases ha : target = a
  · subst ha
    simpa [Monitor.refuse] using (h target).refuse true
  · simpa [Monitor.refuse, put_get_of_ne _ _ ha] using h a

theorem State.onObjected_upholds (s : State) (source : Source) (set : StationSet) :
    s.Upholds (s.onObjected source set) := by
  unfold State.onObjected
  split
  · exact s.endEntry_upholds _ _ _ _ _
  · exact s.arriveStandby_upholds _
  · exact of_counts rfl fun hr => { hr with peers := Monitor.refuse_inRange _ hr.peers }
  · exact of_counts rfl fun hr => { hr with seekHold := Nat.le_refl _ }
  · exact of_counts rfl fun hr => { hr with seekHold := Nat.le_refl _ }
  · exact of_counts rfl fun hr => { hr with snapHold := Nat.le_refl _ }

/-- Table 5-2: the retry limit a host can set. -/
theorem ConfigRecord.retryLimit_le {r : ConfigRecord} (h : r.inRange = true) : r.retryLimit ≤ 15 := by
  simp only [ConfigRecord.inRange, Bool.and_eq_true, decide_eq_true_eq] at h
  exact h.2

/-- R147: the entry found by a tag is the only one of that tag. -/
theorem SendQueue.eq_of_find {q : SendQueue} {tag : Byte} {e x : SendEntry}
    (hq : (q.entries.map SendEntry.tag).Nodup) (hfind : q.find tag = some e) (hx : x ∈ q.entries)
    (htag : x.tag = tag) : x = e :=
  List.inj_on_of_nodup_map hq hx (List.mem_of_find?_eq_some hfind)
    (htag.trans (SendQueue.find_tag hfind).symm)

/-- R128: an attempt is counted only below the retry limit. -/
theorem State.countAttempt_upholds (s : State) (tag : Byte) (set : StationSet) :
    s.Upholds (s.countAttempt tag set) := by
  unfold State.countAttempt
  split
  · rename_i e hfind
    refine ite (fun _ => s.endEntry_upholds _ _ _ _ _) fun _ =>
      ite (fun _ => s.endEntry_upholds _ _ _ _ _) fun hbelow => ?_
    refine of_map rfl (fun x => ?_) (fun hr x hx => ?_)
    · split <;> rfl
    · split
      · have hlimit := ConfigRecord.retryLimit_le hr.config
        obtain rfl : x = e := SendQueue.eq_of_find hr.tags hfind hx ‹_›
        have hlt : x.attempts + 1 < s.controller.config.retryLimit := by
          simpa [State.atRetryLimit] using hbelow
        exact (Nat.le_of_lt hlt).trans hlimit
      · exact hr.attempts x hx
  · exact refl s

theorem State.onLacking_upholds (s : State) (source : Source) (set : StationSet) :
    s.Upholds (s.onLacking source set) := by
  cases source with
  | entry tag => exact s.countAttempt_upholds tag set
  | urgent duty | sync duty => exact refl s

theorem State.onNotCommitted_upholds (s : State) (a b : VerdictCopy) :
    s.Upholds (s.onNotCommitted a b) := by
  unfold State.onNotCommitted
  split
  · exact ite (fun _ => s.onLacking_upholds _ _) (fun _ => s.onObjected_upholds _ _)
  · exact refl s

theorem State.judge_upholds (s : State) (a b : VerdictCopy) : s.Upholds (s.judge a b) := by
  unfold State.judge
  split
  · exact s.onCommitted_upholds
  · exact s.onNotCommitted_upholds a b
  · exact when (s.enterDoubt_upholds _)
  · exact refl s

/-- R91: where the station acquires no more, it is in DOUBT, which keeps the count. -/
theorem State.updateStall_upholds (s before : State) (a b : VerdictCopy) :
    s.Upholds (s.updateStall before a b) := by
  refine ite (fun hstill => ?_) (fun _ => refl s)
  refine ite (fun _ => of_counts rfl fun hr =>
    { hr with stall := Nat.zero_le _, stallBelow := .inr stallLimit_pos }) fun _ =>
      ite (fun _ => s.stallStep_upholds) fun hnot => State.countStall_upholds (.inl ?_)
  simpa [hnot] using (Bool.and_eq_true_iff.mp hstill).2

theorem State.takeVerdict_upholds (s : State) (a b : VerdictCopy) : s.Upholds (s.takeVerdict a b) :=
  when ((s.reachVerdict_upholds a b).trans ((State.judge_upholds _ a b).trans
    ((State.updateStall_upholds _ _ a b).trans (State.dropFlight_upholds _))))

/-! ## The host commands -/

/-- R178: the fields a host can give lie in their ranges. -/
theorem configRequest_inRange {address silenceLimit formationWait retryLimit rejoin : Byte} {r : ConfigRecord}
    (h : configRequest address silenceLimit formationWait retryLimit rejoin = some r) :
    r.inRange = true := by
  unfold configRequest at h
  split at h
  · cases h
  · split at h
    · cases h
    · rename_i hrange
      obtain rfl := Option.some.inj h
      have := formationWait.isLt
      simp [ConfigRecord.inRange]
      omega

theorem State.configure_upholds (s : State)
    (address silenceLimit formationWait retryLimit rejoin : Byte) :
    s.Upholds (s.configure address silenceLimit formationWait retryLimit rejoin).state := by
  unfold State.configure
  split
  · rename_i hst
    split
    · rename_i hr
      have hoffline : s.station ≠ .synced := by simp [hst]
      exact of_unsynced hoffline id fun h => { h with config := configRequest_inRange hr }
    · exact refl s
  · exact refl s

theorem State.startStation_upholds (s : State) : s.Upholds s.startStation.state := by
  unfold State.startStation
  split
  · rename_i h
    have hlisten : s.Upholds ((s.setController { s.controller with listen := 0 }).setLine
        { s.line with slotDrive := none }) := of_counts rfl fun hr => { hr with listen := Nat.zero_le _ }
    have hoffline : s.station ≠ .doubt := by simp [h.1]
    exact hlisten.trans (State.changeStation_upholds _ _ (by simp) hoffline)
  · exact refl s

theorem State.stopStation_upholds (s : State) : s.Upholds s.stopStation.state := by
  unfold State.stopStation
  split
  · rename_i h
    have hdoubt : s.station ≠ .doubt := by rcases h with h | h <;> simp [h]
    have hgo : s.Upholds s.goOffline := of_unsynced (by intro h; cases h) id fun hr =>
      { hr with
        listen := Nat.zero_le _
        formation := Nat.zero_le _
        peers := peers_cleared_inRange
        divergence := divergenceLimit_pos
        stallBelow := .inr (hr.stall_lt hdoubt)
        runCount := readbackLimit_pos }
    exact hgo
  · exact refl s

theorem State.joinStation_upholds (s : State) : s.Upholds s.joinStation.state := by
  unfold State.joinStation
  split
  · rename_i h
    have hdoubt : s.station ≠ .doubt := by simp [h.1]
    exact (State.changeStation_upholds _ _ (by simp) hdoubt).trans
      (State.beginSeeking_upholds (by simp))
  · exact refl s

theorem State.withdrawWaiting_upholds (s : State) : s.Upholds s.withdrawWaiting :=
  of_filter rfl

theorem State.beginLeaving_upholds {s : State} (h : s.station ≠ .doubt) : s.Upholds s.beginLeaving := by
  have hchange := s.withdrawWaiting_upholds.trans
    (State.changeStation_upholds (s := s.withdrawWaiting) (st := .leaving) .command s.heldZones (by simp) h)
  exact hchange.trans (of_counts rfl fun hr => { hr with divergence := divergenceLimit_pos })

theorem State.leaveCluster_upholds (s : State) : s.Upholds s.leaveCluster.state := by
  unfold State.leaveCluster
  split
  · split
    · exact refl s
    · exact s.arriveStandby_upholds _
  · exact State.beginLeaving_upholds (by simp [*])
  · exact State.beginLeaving_upholds (by simp [*])
  all_goals exact refl s

/-- R148: an accepted request joins the queue with no attempt made and a tag of its own. -/
theorem State.joinQueue_upholds (s : State) {tag : Byte} (r : Request)
    (h : s.sendQueue.tagInUse tag = false) : s.Upholds (s.setSendQueue (s.sendQueue.join tag r)) := by
  refine of_entries rfl (fun hr e he => ?_) (fun hr => ?_)
  · rcases List.mem_append.mp he with he | he
    · exact hr.attempts e he
    · rw [List.mem_singleton.mp he]
      exact Nat.zero_le _
  · have hnew : tag ∉ s.sendQueue.entries.map SendEntry.tag := by
      simpa [SendQueue.tagInUse] using h
    rw [State.setSendQueue_sendQueue, SendQueue.join, List.map_append]
    exact hr.tags.append (List.nodup_singleton _) (List.disjoint_singleton.mpr hnew)

theorem State.takeRequest_upholds (s : State) (tag : Byte) (request : Option Request) :
    s.Upholds (s.takeRequest tag request).state := by
  unfold State.takeRequest
  split
  · split
    · exact refl s
    split
    · exact refl s
    split
    · exact refl s
    · rename_i htag
      split
      · exact refl s
      split
      · exact refl s
      · exact s.joinQueue_upholds _ (Bool.eq_false_iff.mpr htag)
  · exact refl s

theorem State.recall_upholds (s : State) (tag : Byte) : s.Upholds (s.recall tag).state := by
  unfold State.recall
  split
  · split
    · exact of_filter rfl
    · exact refl s
  · exact refl s

theorem State.writeVeto_upholds (s : State) (zone flag : Byte) :
    s.Upholds (s.writeVeto zone flag).state := by
  unfold State.writeVeto
  split <;> exact of_gauge rfl

theorem State.writeWatch_upholds (s : State) (zone flag : Byte) :
    s.Upholds (s.writeWatch zone flag).state := by
  unfold State.writeWatch
  split <;> exact of_gauge rfl

theorem State.readZone_upholds (s : State) (zone : Byte) : s.Upholds (s.readZone zone).state := by
  unfold State.readZone
  split
  · split <;> exact refl s
  · exact refl s

theorem State.readRoster_upholds (s : State) : s.Upholds s.readRoster.state := by
  unfold State.readRoster
  split <;> exact refl s

theorem State.fetchEvent_upholds (s : State) : s.Upholds s.fetchEvent.state := by
  unfold State.fetchEvent
  split <;> exact of_gauge rfl

theorem State.ackEvent_upholds (s : State) (sequence : Byte) : s.Upholds (s.ackEvent sequence).state := by
  unfold State.ackEvent
  split
  · split <;> exact of_gauge rfl
  · exact refl s

/-- The counts of a station after a reset, whose configuration record lies in its ranges. -/
theorem reset_inRange {g : Gauge} (hconfig : g.controller.config.inRange = true)
    (h : g = { State.reset.gauge with
      controller :=
        { Controller.cleared with
          configured := g.controller.configured, config := g.controller.config } }) : g.InRange := by
  have hcounters : LineCounters.cleared.inRange = true := by decide
  rw [h]
  exact
    { config := hconfig, listen := Nat.zero_le _, formation := Nat.zero_le _
      peers := peers_cleared_inRange, divergence := divergenceLimit_pos, loaded := Nat.zero_le _
      stall := Nat.zero_le _, stallBelow := .inr stallLimit_pos, seekHold := Nat.zero_le _
      snapHold := Nat.zero_le _, position := rfl, runCount := readbackLimit_pos
      counters := hcounters, attempts := fun _ he => absurd he List.not_mem_nil
      tags := List.nodup_nil }

theorem State.resetBlocks_upholds (s : State) : s.Upholds s.resetBlocks :=
  of_unsynced (by intro h; cases h) (fun _ => Roster.cleared_form) fun hr => reset_inRange hr.config rfl

theorem State.powerReset_upholds (s : State) : s.Upholds s.powerReset := by
  have hdefaults : ConfigRecord.defaults.inRange = true := by decide
  exact of_unsynced (by intro h; cases h) (fun _ => Roster.cleared_form) fun _ =>
    reset_inRange hdefaults rfl

/-- Whatever the parameter bytes, a command taken keeps both forms. -/
theorem runCommand_upholds (c : HostCommand) (p : List Byte) (s : State) :
    s.Upholds (runCommand c p s).state := by
  match c with
  | .configure => exact s.configure_upholds _ _ _ _ _
  | .start => exact s.startStation_upholds
  | .stop => exact s.stopStation_upholds
  | .join => exact s.joinStation_upholds
  | .leave => exact s.leaveCluster_upholds
  | .claim | .renew | .release | .cancel | .note => exact s.takeRequest_upholds _ _
  | .recall => exact s.recall_upholds _
  | .veto => exact s.writeVeto_upholds _ _
  | .watch => exact s.writeWatch_upholds _ _
  | .readZone => exact s.readZone_upholds _
  | .readRoster => exact s.readRoster_upholds
  | .readStation => exact refl s
  | .fetchEvent => exact s.fetchEvent_upholds
  | .ackEvent => exact s.ackEvent_upholds _
  | .reset => exact s.resetBlocks_upholds

/-! ## The moves and the step -/

theorem State.Move.upholds {s t : State} (h : s.Move t) : s.Upholds t := by
  cases h with
  | pending queue => exact of_gauge rfl
  | port p => exact of_gauge rfl
  | hardwareReset => exact s.powerReset_upholds
  | command c params => exact runCommand_upholds c params s
  | mark m => exact s.takeMark_upholds m
  | lostMark => exact s.loseMark_upholds
  | status slots => exact s.takeStatus_upholds slots
  | selection => exact s.takeSelection_upholds
  | arbitrationLoss bit => exact s.loseAt_upholds bit
  | claimFault bit => exact s.faultAt_upholds bit
  | claim read => exact s.takeClaim_upholds read
  | messageMismatch bit => exact s.mismatchAt_upholds bit
  | message m => exact s.takeMessage_upholds m
  | ownedMismatch bit => exact s.mismatchOwned_upholds bit
  | verdict a b => exact s.takeVerdict_upholds a b
  | position p hp => exact s.setPosition_upholds hp

theorem step_upholds {s t : State} (h : step s = .next t) : s.Upholds t :=
  step_of_moves State.Upholds.refl State.Upholds.trans State.Move.upholds h

/-- With distinct tags in the send queue (R147), which every step keeps too, every step keeps every count in its
range. -/
theorem inRange_kept_of_distinct_tags {s t : State} (hs : s.inRange = true)
    (htags : (s.sendQueue.entries.map SendEntry.tag).Nodup) (h : step s = .next t) :
    t.inRange = true ∧ (t.sendQueue.entries.map SendEntry.tag).Nodup :=
  t.inRange_iff.mp ((step_upholds h).range (s.inRange_iff.mpr ⟨hs, htags⟩))

/-! ## Two entries of one tag -/

/-- A RELEASE of zone 2 with tag 9. -/
def twinEntry (attempts : Nat) (state : EntryState) : SendEntry :=
  { tag := 9, request := .release 2, attempts := attempts, state := state }

/-- A SYNCED station before the verdict point whose RELEASE of tag 9 has won the claim segment; a second entry of the
same tag, which R148 has the station refuse to its host, has made fifteen attempts. In the verdict copies as read
nobody accepts and nobody objects. -/
def twinTags : State :=
  { State.reset with
    controller :=
      { Controller.cleared with
        station := .synced, configured := true
        config := { ConfigRecord.defaults with address := some 3 } }
    roster := Roster.cleared.found 3
    sendQueue := { entries := [twinEntry 0 .inFlight, twinEntry 15 .waiting], ownWaits := [] }
    selector :=
      { Selector.cleared with
        inFlight := some
          { source := .entry 9, kind := .release, cls := .urgent
            message := formMessage .release 3 1 [2], claim := .won, mismatchFrom := none } }
    verdict := { VerdictUnit.cleared with claim := some (.winner 0 3) }
    line := { Line.cleared with position := .bit 431, point := .message, claimActive := true }
    pending := [.verdictPoint emptyCopy emptyCopy] }

theorem twinTags_inRange : twinTags.inRange = true := by decide +kernel

/-- The verdict point counts the attempt at both entries of the tag. -/
theorem twinTags_attempts :
    (((twinTags.setPending []).takeVerdict emptyCopy emptyCopy).sendQueue.entries.map SendEntry.attempts)
      = [1, 16] := by
  decide +kernel

theorem attempts_le_of_inRange {s : State} (h : s.inRange = true) :
    ∀ n ∈ s.sendQueue.entries.map SendEntry.attempts, n ≤ 15 := by
  simp only [State.inRange, SendQueue.inRange, Bool.and_eq_true, List.all_eq_true,
    decide_eq_true_eq] at h
  simpa using h.2

end Sys2Proof.Machine

open Sys2Proof Sys2Proof.Machine

/-- Settles O57: the form of the roster, with the own address of a SYNCED station MEMBER in it, is kept by every move,
and a step is a chain of moves. -/
theorem rosterFormKept : Obligations.RosterFormKept := fun s t hs hstep =>
  t.rosterForm_iff.mp ((step_upholds hstep).roster (s.rosterForm_iff.mpr hs))

/-- Refutes O59: the statement does not ask for distinct tags. At two entries of one tag an attempt is counted at both,
and takes one with fifteen attempts to sixteen (`twinTags`). With distinct tags the ranges are kept
(`inRange_kept_of_distinct_tags`). -/
theorem not_rangesKept : ¬ Obligations.RangesKept := by
  intro h
  have hstep : step twinTags = .next ((twinTags.setPending []).takeVerdict emptyCopy emptyCopy) := rfl
  have hle := attempts_le_of_inRange (h _ _ twinTags_inRange hstep)
  rw [twinTags_attempts] at hle
  exact absurd (hle 16 (by simp)) (by decide)
end

section
/-! SUPPORT. The status point in closed form: what the readback of the own slot leaves, the peer watch after it (R67 to
R69), and what the local state then does (R70, R73, R99, R102). -/

namespace Sys2Proof.Machine

/-! ## The readback of the own slot (R144, R145) -/

/-- R145: the Line Interface after the first mismatch of a cycle. -/
def Line.afterMismatch (l : Line) : Line :=
  { l with
    counters := { l.counters with readbackMismatches := lineCount l.counters.readbackMismatches }
    mismatchSeen := true, cleanPending := false
    runCount := min (l.runCount + 1) Config.readbackLimit }

/-- R145: the Line Interface after the mismatches of a cycle before the third. -/
theorem State.ownedMismatch_of_below {s : State} (hseen : s.line.mismatchSeen = false)
    (hrun : s.line.runCount + 1 < Config.readbackLimit) :
    s.ownedMismatch = s.setLine s.line.afterMismatch := by
  have hnot : ¬ Config.readbackLimit ≤ s.line.runCount + 1 := Nat.not_le_of_lt hrun
  unfold State.ownedMismatch
  simp only [hseen, hnot, if_false, Bool.false_eq_true]
  rfl

/-- R145: the third mismatch in a row. -/
theorem State.ownedMismatch_of_limit {s : State} (hseen : s.line.mismatchSeen = false)
    (hrun : Config.readbackLimit ≤ s.line.runCount + 1) :
    s.ownedMismatch = (s.setLine s.line.afterMismatch).enterFaulted .readbackFault := by
  unfold State.ownedMismatch
  simp only [hseen, hrun, if_true, if_false, Bool.false_eq_true]
  rfl

/-- A slot read otherwise than driven is a mismatch of an owned bit. -/
theorem State.readBackSlot_misread {s : State} {slots : Slots} {d : SlotDrive} (ho : s.ownsBits = true)
    (hd : s.line.slotDrive = some d) (hslot : slotOf slots d.address ≠ slotWord d) :
    s.readBackSlot slots = s.ownedMismatch := by
  simp [State.readBackSlot, hd, ho, hslot]

/-- A readback changes the Line Interface only, or faults the station. -/
theorem State.readBackSlot_cases (s : State) (slots : Slots) :
    (∃ l, s.readBackSlot slots = s.setLine l)
    ∨ ∃ l, s.readBackSlot slots = (s.setLine l).enterFaulted .readbackFault := by
  by_cases hclean : s.slotClean slots
  · obtain ⟨run, wait, h⟩ := State.readBackSlot_clean hclean
    exact .inl ⟨_, h⟩
  · obtain ⟨d, hd, hslot⟩ : ∃ d, s.line.slotDrive = some d ∧ slotOf slots d.address ≠ slotWord d := by
      simpa [State.slotClean] using hclean
    cases ho : s.ownsBits with
    | false =>
      refine .inl ⟨s.line, ?_⟩
      simp [State.readBackSlot, hd, ho, State.setLine]
    | true =>
      rw [State.readBackSlot_misread ho hd hslot]
      cases hseen : s.line.mismatchSeen with
      | true => exact .inl ⟨s.line, by simp [State.ownedMismatch, hseen, State.setLine]⟩
      | false =>
        by_cases hrun : Config.readbackLimit ≤ s.line.runCount + 1
        · exact .inr ⟨_, State.ownedMismatch_of_limit hseen hrun⟩
        · exact .inl ⟨_, State.ownedMismatch_of_below hseen (Nat.lt_of_not_le hrun)⟩

/-- A slot driven and read as driven sets the run count to 0, or leaves it where a stance may follow. -/
theorem State.readBackSlot_driven {s : State} {slots : Slots} {d : SlotDrive} (ho : s.ownsBits = true)
    (hd : s.line.slotDrive = some d) (hclean : s.slotClean slots) (hseen : s.line.mismatchSeen = false) :
    (s.readBackSlot slots).line.runCount = if s.takesStance then s.line.runCount else 0 := by
  have hread : s.readBackSlot slots = s.cleanSlot := by
    simp [State.readBackSlot, hd, ho, hclean d hd]
  rw [hread]
  unfold State.cleanSlot
  rw [hseen]
  cases s.takesStance <;> rfl

/-! ## The peer watch after the point (R67 to R69) -/

/-- R68, R69: the Status Monitor after the slots of a status point. -/
def State.nextMonitor (s : State) (slots : Slots) : Monitor :=
  { s.monitor with
    peers := tabulate 16 (fun a =>
      { watchSlot (s.monitor.peers.get a) (slotOf slots a) with
        mismatch :=
          if s.appliesRoster then
            mismatchSlot (s.roster.role a) (s.monitor.peers.get a) (slotOf slots a)
          else 0 })
    slotDerived := clusterSlots slots }

theorem State.nextMonitor_peer (s : State) (slots : Slots) (a : Addr) :
    (s.nextMonitor slots).peers.get a =
      { watchSlot (s.monitor.peers.get a) (slots.get a) with
        mismatch :=
          if s.appliesRoster then
            mismatchSlot (s.roster.role a) (s.monitor.peers.get a) (slots.get a)
          else 0 } :=
  tabulate_get _ a

@[simp] theorem State.enterDoubt_station (s : State) (reason : StateReason) :
    (s.enterDoubt reason).station = .doubt := rfl

/-- R113: on entry to DOUBT only the mismatch counts of the peer watch change. -/
theorem State.enterDoubt_peer (s : State) (reason : StateReason) (a : Addr) :
    (s.enterDoubt reason).monitor.peers.get a = { s.monitor.peers.get a with mismatch := 0 } :=
  tabulate_get _ a

theorem watchSlot_mismatch (p : PeerRecord) (w : BitVec 16) : (watchSlot p w).mismatch = p.mismatch := by
  unfold watchSlot
  split <;> rfl

/-- The mismatch count of a slot reads nothing of a record but its mismatch count. -/
theorem mismatchSlot_watchSlot (r : Role) (p : PeerRecord) (w : BitVec 16) :
    mismatchSlot r (watchSlot p w) w = mismatchSlot r p w := by
  simp only [mismatchSlot, watchSlot_mismatch]

theorem State.watch_and_count (s : State) (slots : Slots) :
    (s.watchSlots slots).countSlots slots = s.setMonitor (s.nextMonitor slots) := by
  have hroster : (s.watchSlots slots).appliesRoster = s.appliesRoster := rfl
  unfold State.countSlots
  rw [hroster]
  cases hr : s.appliesRoster with
  | true =>
    simp [State.nextMonitor, State.watchSlots, State.setMonitor, hr, mismatchSlot_watchSlot]
  | false =>
    simp [State.nextMonitor, State.watchSlots, State.setMonitor, hr, Monitor.noMismatch]

/-- The first half of the point where the station goes on owning bits. -/
theorem State.readStatus_of_line {s : State} {slots : Slots} {l : Line} (ho : s.ownsBits = true)
    (h : (s.makePoint .status 255).readBackSlot slots = s.setLine l) :
    s.readStatus slots = (s.setLine l).setMonitor (s.nextMonitor slots) := by
  have hown : (s.setLine l).watchesPeers = true := ho
  unfold State.readStatus
  rw [h]
  simp only [hown, if_true]
  exact State.watch_and_count (s.setLine l) slots

/-- A station that faults at its readback keeps no peer watch. -/
theorem State.readStatus_of_fault {s : State} {slots : Slots} {l : Line}
    (h : (s.makePoint .status 255).readBackSlot slots = (s.setLine l).enterFaulted .readbackFault) :
    s.readStatus slots = (s.setLine l).enterFaulted .readbackFault := by
  unfold State.readStatus
  rw [h]
  rfl

/-- A station that is SYNCED after the first half of the point has changed its line and its peer watch only. -/
theorem State.readStatus_of_synced {s : State} {slots : Slots}
    (h : (s.readStatus slots).station = .synced) :
    ∃ l, s.readStatus slots = (s.setLine l).setMonitor (s.nextMonitor slots) := by
  have hpoint (l : Line) : (s.makePoint .status 255).setLine l = s.setLine l := rfl
  rcases (s.makePoint .status 255).readBackSlot_cases slots with ⟨l, hl⟩ | ⟨l, hl⟩ <;> rw [hpoint] at hl
  · cases ho : s.ownsBits with
    | true => exact ⟨l, State.readStatus_of_line ho hl⟩
    | false =>
      have hst : (s.readStatus slots).station = s.station := by
        have hown : (s.setLine l).watchesPeers = false := ho
        unfold State.readStatus
        rw [hl]
        simp only [hown]
        rfl
      rw [hst] at h
      simp [State.ownsBits, h] at ho
  · rw [State.readStatus_of_fault hl] at h
    cases h

/-- With the own slot read as driven, or none driven. -/
theorem State.readStatus_clean {s : State} {slots : Slots} (ho : s.ownsBits = true)
    (hclean : s.slotClean slots) :
    ∃ l, s.readStatus slots = (s.setLine l).setMonitor (s.nextMonitor slots)
      ∧ l.counters = s.line.counters
      ∧ ∀ d, s.line.slotDrive = some d → s.line.mismatchSeen = false →
          l.runCount = if s.takesStance then s.line.runCount else 0 := by
  have hclean' : (s.makePoint .status 255).slotClean slots := hclean
  obtain ⟨run, wait, hl⟩ := State.readBackSlot_clean hclean'
  refine ⟨_, State.readStatus_of_line ho hl, rfl, fun d hd hseen => ?_⟩
  have hrun := State.readBackSlot_driven (s := s.makePoint .status 255) ho hd hclean' hseen
  rw [hl] at hrun
  exact hrun

/-! ## What the local state does (R70, R73, R99, R102) -/

/-- The second half of the point after the listening check: counts, duties and the divergence count; or DOUBT. -/
theorem State.actOnStatus_cases {s : State} (slots : Slots)
    (h : s.station = .standby → s.controller.listen = Config.listenCycles) :
    (∃ c x n, s.actOnStatus slots =
        ((s.setController c).setSelector x).setMonitor { s.monitor with divergence := n }
        ∧ c.station = s.station)
    ∨ s.station = .synced ∧ ∃ n, s.actOnStatus slots =
        (s.setMonitor { s.monitor with divergence := n }).enterDoubt .divergence := by
  have hsame (e : s.actOnStatus slots = s) : ∃ c x n, s.actOnStatus slots =
      ((s.setController c).setSelector x).setMonitor { s.monitor with divergence := n }
      ∧ c.station = s.station :=
    ⟨s.controller, s.selector, s.monitor.divergence, e, rfl⟩
  cases hst : s.station with
  | standby =>
    refine .inl (hst ▸ hsame ?_)
    have hdone : ¬ s.controller.listen < Config.listenCycles := by simp [h hst]
    simp only [State.actOnStatus, hst, State.listenStep, hdone, if_false]
    split <;> rfl
  | seeking =>
    have hact : s.actOnStatus slots = s.seekStep := by simp [State.actOnStatus, hst]
    rw [hact]
    unfold State.seekStep
    split
    · exact .inl ⟨{ s.controller with formation := s.formationNext },
        { s.selector with
          sync := if s.controller.config.formationWait ≤ s.formationNext then some .found else none },
        s.monitor.divergence, rfl, hst⟩
    · exact .inl ⟨{ s.controller with formation := 0 }, { s.selector with sync := some .joinReq },
        s.monitor.divergence, rfl, hst⟩
  | synced =>
    have hact : s.actOnStatus slots = s.syncedStep slots := by simp [State.actOnStatus, hst]
    rw [hact]
    unfold State.syncedStep
    split
    · exact .inr ⟨rfl, _, rfl⟩
    · exact .inl ⟨s.controller, _, _, rfl, hst⟩
  | offline | joining | leaving | doubt | faulted =>
    exact .inl (hst ▸ hsame (by simp [State.actOnStatus, hst]))

theorem State.takeStatus_of_can {s : State} {slots : Slots} (h : s.canMake .status = true) :
    s.takeStatus slots = (s.readStatus slots).actOnStatus slots := by
  simp [State.takeStatus, h]

/-- R68, R69: the station after a status point that does not fault it: the line as its readback left it, the replica
as it was, and each peer record brought up to date with its slot, its mismatch count 0 where the station applies no
roster or enters DOUBT. -/
structure State.AfterStatus (s t : State) (slots : Slots) (l : Line) : Prop where
  line        : t.line = l
  zones       : t.zones = s.zones
  roster      : t.roster = s.roster
  slotDerived : t.monitor.slotDerived = clusterSlots slots
  peer        : ∀ a, t.monitor.peers.get a =
    { watchSlot (s.monitor.peers.get a) (slots.get a) with
      mismatch :=
        if s.appliesRoster = true ∧ t.station = s.station then
          mismatchSlot (s.roster.role a) (s.monitor.peers.get a) (slots.get a)
        else 0 }

theorem State.takeStatus_after {s : State} {slots : Slots} {l : Line} (hcan : s.canMake .status = true)
    (hread : s.readStatus slots = (s.setLine l).setMonitor (s.nextMonitor slots))
    (hlisten : s.station = .standby → s.controller.listen = 2) :
    s.AfterStatus (s.takeStatus slots) slots l := by
  rw [State.takeStatus_of_can hcan, hread]
  rcases State.actOnStatus_cases (s := (s.setLine l).setMonitor (s.nextMonitor slots)) slots hlisten with
    ⟨c, x, n, hact, hc⟩ | ⟨hst, n, hact⟩
  · rw [hact]
    refine ⟨rfl, rfl, rfl, rfl, fun a => ?_⟩
    have hstation : c.station = s.station := hc
    refine (s.nextMonitor_peer slots a).trans ?_
    simp [State.station, hstation]
  · rw [hact]
    have hsynced : s.station = .synced := hst
    have hdoubt : ¬ StationState.doubt = s.station := by simp [hsynced]
    refine ⟨rfl, rfl, rfl, rfl, fun a => (State.enterDoubt_peer _ _ a).trans ?_⟩
    show ({ (s.nextMonitor slots).peers.get a with mismatch := 0 } : PeerRecord) = _
    simp [s.nextMonitor_peer slots a, hdoubt]

end Sys2Proof.Machine
end

section
/-! SUPPORT. The statement about the status point's reading of the slots settled. -/

namespace Sys2Proof.Machine

/-! ## Slots as read -/

theorem slotPresent_of_dominant {w : BitVec 16} (h : w.getLsbD 15 = false) : slotPresent w = true := by
  rw [slotPresent, h]
  rfl

theorem slotPresent_of_recessive {w : BitVec 16} (h : w.getLsbD 15 = true) : slotPresent w = false := by
  rw [slotPresent, h]
  rfl

theorem watchSlot_of_present {w : BitVec 16} (h : w.getLsbD 15 = false) (p : PeerRecord) :
    watchSlot p w =
      { p with lastMode := some (slotMode w), lastCounter := w.extractLsb' 0 12, silence := 0 } := by
  simp [watchSlot, slotPresent_of_dominant h, slotCounter]

theorem watchSlot_of_absent {w : BitVec 16} (h : w.getLsbD 15 = true) (p : PeerRecord) :
    watchSlot p w = { p with lastMode := none, silence := min (p.silence + 1) 31 } := by
  simp [watchSlot, slotPresent_of_recessive h, saturate, Config.silenceMax]

/-- R69, Table 3-5: the mismatch count, by the role and the slot. -/
theorem mismatchSlot_eq (r : Role) (p : PeerRecord) (w : BitVec 16) :
    mismatchSlot r p w =
      if r = .absent then 0
      else if w.getLsbD 15 = true then p.mismatch
      else if (r = .member ∧ slotMode w = .synced) ∨ (r ≠ .member ∧ slotMode w = .joining) then 0
      else min (p.mismatch + 1) 3 := by
  unfold mismatchSlot slotPresent
  cases w.getLsbD 15 with
  | true => simp
  | false => cases r <;> simp [modeAgrees, saturate, Config.mismatchMax]

theorem mem_clusterSlots (slots : Slots) (a : Addr) :
    mem (clusterSlots slots) a = true ↔
      (slots.get a).getLsbD 15 = false
      ∧ (slotMode (slots.get a) = .synced ∨ slotMode (slots.get a) = .doubt
        ∨ slotMode (slots.get a) = .joining) := by
  simp [clusterSlots, slotPresent, slotOf, or_assoc]

/-! ## What a status point leaves, clause by clause -/

namespace State.AfterStatus

variable {s t : State} {slots : Slots} {l : Line} {a : Addr}

theorem present (h : s.AfterStatus t slots l) (ha : (slots.get a).getLsbD 15 = false) :
    (t.monitor.peers.get a).lastMode = some (slotMode (slots.get a))
    ∧ (t.monitor.peers.get a).lastCounter = (slots.get a).extractLsb' 0 12
    ∧ (t.monitor.peers.get a).silence = 0 := by
  rw [h.peer a, watchSlot_of_present ha]
  exact ⟨rfl, rfl, rfl⟩

theorem absent (h : s.AfterStatus t slots l) (ha : (slots.get a).getLsbD 15 = true) :
    (t.monitor.peers.get a).lastMode = none
    ∧ (t.monitor.peers.get a).lastCounter = (s.monitor.peers.get a).lastCounter
    ∧ (t.monitor.peers.get a).silence = min ((s.monitor.peers.get a).silence + 1) 31 := by
  rw [h.peer a, watchSlot_of_absent ha]
  exact ⟨rfl, rfl, rfl⟩

theorem mismatch_of_roster (h : s.AfterStatus t slots l) (hr : s.appliesRoster = true)
    (hst : t.station = s.station) :
    (t.monitor.peers.get a).mismatch =
      mismatchSlot (s.roster.role a) (s.monitor.peers.get a) (slots.get a) := by
  rw [h.peer a]
  exact if_pos ⟨hr, hst⟩

theorem mismatch_zero (h : s.AfterStatus t slots l)
    (hno : s.appliesRoster = false ∨ t.station ≠ s.station) : (t.monitor.peers.get a).mismatch = 0 := by
  rw [h.peer a]
  refine if_neg fun ⟨hr, hst⟩ => ?_
  rcases hno with hno | hno
  · simp [hr] at hno
  · exact hno hst

end State.AfterStatus

/-! ## The listening check (R99) -/

theorem State.listenStep_of_absent {s : State} {slots : Slots} {own : Addr} (hown : s.own = some own)
    (hlisten : s.controller.listen < 2) (h : (slots.get own).getLsbD 15 = true) :
    s.listenStep slots = s.setController { s.controller with listen := s.controller.listen + 1 } := by
  simp [State.listenStep, hown, Config.listenCycles, hlisten, slotOf, slotPresent_of_recessive h]

theorem State.listenStep_of_present {s : State} {slots : Slots} {own : Addr} (hown : s.own = some own)
    (hlisten : s.controller.listen < 2) (h : (slots.get own).getLsbD 15 = false) :
    s.listenStep slots = s.enterFaulted .addressInUse := by
  simp [State.listenStep, hown, Config.listenCycles, hlisten, slotOf, slotPresent_of_dominant h]

/-! ## The row -/

theorem exec_statusPoint {s : State} (hrun : s.running) (slots : Slots) :
    exec (.statusPoint slots) s = .next (s.takeStatus slots) :=
  congrArg Host.Outcome.next (State.unlessReset_of_running hrun)

end Sys2Proof.Machine

open Sys2Proof Sys2Proof.Machine

/-- Settles O29: the readback of the own slot leaves the line or faults the station; then each peer record takes its
slot, and the local state changes the mismatch counts again only on entry to DOUBT. -/
theorem statusPointReadsSlots : Obligations.StatusPointReadsSlots := by
  refine ⟨?clean, ?listening, ?misread⟩
  case clean =>
    intro slots s hrun hcan ho hclean hlisten
    obtain ⟨l, hread, hcounters, hcount⟩ := State.readStatus_clean ho hclean
    have hafter := State.takeStatus_after hcan hread hlisten
    refine ⟨_, exec_statusPoint hrun slots, fun a => hafter.present, fun a => hafter.absent, fun a => ?_,
      fun a hr hst => ?_, fun a => hafter.mismatch_zero, fun d hd hseen => ?_, ?_, hafter.zones,
      hafter.roster⟩
    · rw [hafter.slotDerived]
      exact mem_clusterSlots slots a
    · rw [hafter.mismatch_of_roster hr hst]
      exact mismatchSlot_eq _ _ _
    · rw [hafter.line]
      exact hcount d hd hseen
    · rw [hafter.line]
      exact hcounters
  case listening =>
    intro slots s own hrun hcan hst hlisten hslot hown
    have ho : s.ownsBits = true := by simp [State.ownsBits, hst]
    have hclean : s.slotClean slots := fun d hd => by simp [hslot] at hd
    obtain ⟨l, hread, -, -⟩ := State.readStatus_clean ho hclean
    have hact : s.takeStatus slots =
        ((s.setLine l).setMonitor (s.nextMonitor slots)).listenStep slots := by
      have hst' : ((s.setLine l).setMonitor (s.nextMonitor slots)).station = .standby := hst
      rw [State.takeStatus_of_can hcan, hread]
      simp [State.actOnStatus, hst']
    have hown' : ((s.setLine l).setMonitor (s.nextMonitor slots)).own = some own := hown
    refine ⟨fun habsent => ⟨_, exec_statusPoint hrun slots, ?_⟩,
      fun hpresent => ⟨_, exec_statusPoint hrun slots, ?_⟩⟩
    · rw [hact, State.listenStep_of_absent hown' hlisten habsent]
      exact ⟨rfl, rfl⟩
    · rw [hact, State.listenStep_of_present hown' hlisten hpresent, ← hst]
      exact ⟨rfl, rfl, rfl⟩
  case misread =>
    intro slots s d hrun hcan ho hd hslot hseen hlisten
    have hmis : (s.makePoint .status 255).readBackSlot slots = (s.makePoint .status 255).ownedMismatch :=
      State.readBackSlot_misread ho hd hslot
    constructor
    · intro hcount
      have hbelow := State.ownedMismatch_of_below (s := s.makePoint .status 255) hseen
        (Nat.succ_lt_succ hcount)
      have hafter := State.takeStatus_after hcan (State.readStatus_of_line ho (hmis.trans hbelow)) hlisten
      refine ⟨_, exec_statusPoint hrun slots, ?_, ?_⟩
      · rw [hafter.line]
        exact Nat.min_eq_left (Nat.le_of_lt (Nat.succ_lt_succ hcount))
      · rw [hafter.line]
        rfl
    · intro hcount
      have hlimit := State.ownedMismatch_of_limit (s := s.makePoint .status 255) hseen
        (show Config.readbackLimit ≤ s.line.runCount + 1 by rw [hcount]; decide)
      have hfault := State.readStatus_of_fault (hmis.trans hlimit)
      refine ⟨_, exec_statusPoint hrun slots, ?_⟩
      rw [State.takeStatus_of_can hcan, hfault]
      exact ⟨rfl, rfl, rfl, rfl, rfl, rfl⟩
end

section
/-! SUPPORT. Eviction candidates (R70) and the divergence count (R73) of a SYNCED station's status point, and the
statement about them settled. -/

namespace Sys2Proof.Machine

/-! ## The lowest address with a property -/

theorem lowest_minimal {p : Addr → Bool} {a : Addr} (h : lowest p = some a) {b : Addr} (hb : b < a) :
    p b = false := by
  obtain ⟨-, before, after, hsplit, hbefore⟩ := List.find?_eq_some_iff_append.mp h
  have hmem : b ∈ before ++ a :: after := hsplit ▸ (by simp [allAddrs] : b ∈ allAddrs)
  have hsorted : (before ++ a :: after).Pairwise (· < ·) := hsplit ▸ List.pairwise_lt_finRange 16
  rcases List.mem_append.mp hmem with hb' | hb'
  · simpa using hbefore b hb'
  · rcases List.mem_cons.mp hb' with rfl | hafter
    · exact absurd hb (lt_irrefl b)
    · have hab : a < b := (List.pairwise_cons.mp (List.pairwise_append.mp hsorted).2.1).1 b hafter
      exact absurd hb (lt_asymm hab)

theorem lowest_eq_some {p : Addr → Bool} {a : Addr} (ha : p a = true) (h : ∀ b, b < a → p b = false) :
    lowest p = some a := by
  cases hl : lowest p with
  | none => simp [(lowest_none_iff p).mp hl a] at ha
  | some c =>
    rcases lt_trichotomy c a with hc | rfl | hc
    · have hp := lowest_holds hl
      simp [h c hc] at hp
    · rfl
    · simp [lowest_minimal hl hc] at ha

/-! ## Eviction candidates (R70) -/

theorem State.candidate_eq_some_iff (s : State) (a : Addr) (reason : EvictReason) :
    s.candidate a = some reason ↔ s.isCandidate a reason := by
  have hin : ¬ (s.isOwn a || s.roster.role a == .absent || (s.monitor.peers.get a).refused) = true
      ↔ s.own ≠ some a ∧ s.roster.role a ≠ .absent ∧ (s.monitor.peers.get a).refused = false := by
    simp [State.isOwn, and_assoc]
  unfold State.candidate
  split
  · rename_i hout
    refine iff_of_false (by simp) fun ⟨hown, hrole, hrefused, _⟩ => ?_
    exact hin.mpr ⟨hown, hrole, hrefused⟩ hout
  · rename_i hout
    obtain ⟨hown, hrole, hrefused⟩ := hin.mp hout
    cases reason with
    | silent => simp [State.isCandidate, hown, hrole, hrefused]
    | mismatch =>
      by_cases hsilent : s.controller.config.silenceLimit ≤ (s.monitor.peers.get a).silence
      · simp [State.isCandidate, hsilent]
      · have hbelow := Nat.lt_of_not_le hsilent
        by_cases hmismatch : 2 ≤ (s.monitor.peers.get a).mismatch <;>
          simp [State.isCandidate, hown, hrole, hrefused, hsilent, hbelow, hmismatch, Config.mismatchLimit]

theorem State.candidate_eq_none {s : State} {a : Addr} (h : ∀ reason, ¬ s.isCandidate a reason) :
    s.candidate a = none := by
  cases hc : s.candidate a with
  | none => rfl
  | some reason => exact absurd ((s.candidate_eq_some_iff a reason).mp hc) (h reason)

theorem State.evictDuty_eq_none {s : State} (h : ∀ a reason, ¬ s.isCandidate a reason) :
    s.evictDuty = none := by
  have hnone : lowest (fun a => (s.candidate a).isSome) = none :=
    (lowest_none_iff _).mpr fun a => by simp [State.candidate_eq_none (h a)]
  simp [State.evictDuty, hnone]

theorem State.evictDuty_of_lowest {s : State} {a : Addr} {reason : EvictReason}
    (ha : s.isCandidate a reason) (h : ∀ b, b < a → ∀ r, ¬ s.isCandidate b r) :
    s.evictDuty = some (.evict a reason) := by
  have hc := (s.candidate_eq_some_iff a reason).mpr ha
  have hlow : lowest (fun a => (s.candidate a).isSome) = some a :=
    lowest_eq_some (by simp [hc]) fun b hb => by simp [State.candidate_eq_none (h b hb)]
  simp [State.evictDuty, hlow, hc]

/-- The EVICT duty names the lowest candidate with its reason. -/
theorem State.evictDuty_isSome {s : State} (h : s.evictDuty.isSome = true) :
    ∃ a reason, s.evictDuty = some (.evict a reason) ∧ s.isCandidate a reason
      ∧ ∀ b, b < a → s.candidate b = none := by
  unfold State.evictDuty at h ⊢
  cases hl : lowest (fun a => (s.candidate a).isSome) with
  | none => simp [hl] at h
  | some a =>
    obtain ⟨reason, hc⟩ := Option.isSome_iff_exists.mp (lowest_holds hl)
    refine ⟨a, reason, by simp [hc], (s.candidate_eq_some_iff a reason).mp hc, fun b hb => ?_⟩
    simpa using lowest_minimal hl hb

/-! ## Divergence (R73) -/

theorem State.comparedCount_eq (s : State) (slots : Slots) :
    s.comparedCount slots = (s.syncedPeers slots).length :=
  List.countP_eq_length_filter

theorem State.differingCount_eq (s : State) (slots : Slots) :
    s.differingCount slots = (s.differingPeers slots).length := by
  unfold State.differingPeers State.syncedPeers
  rw [List.filter_filter, ← List.countP_eq_length_filter]
  exact List.countP_congr fun a _ => by rw [Bool.and_comm]; rfl

/-- R73: the divergence count after the point, by n and k. -/
theorem State.divergenceNext_of_none {s : State} {slots : Slots} (h : (s.syncedPeers slots).length = 0) :
    s.divergenceNext slots = s.monitor.divergence := by
  simp [State.divergenceNext, State.divergent, s.comparedCount_eq, h]

theorem State.divergenceNext_of_few {s : State} {slots : Slots}
    (h : 2 * (s.differingPeers slots).length < (s.syncedPeers slots).length) :
    s.divergenceNext slots = 0 := by
  have hk : ¬ (s.syncedPeers slots).length ≤ 2 * (s.differingPeers slots).length := Nat.not_le_of_lt h
  have hn : (s.syncedPeers slots).length ≠ 0 := Nat.ne_of_gt (Nat.zero_lt_of_lt h)
  simp only [State.divergenceNext, State.divergent, s.comparedCount_eq, s.differingCount_eq, hk, hn,
    decide_false, Bool.and_false, if_false, Bool.false_eq_true]

theorem State.divergenceNext_of_divergent {s : State} {slots : Slots}
    (hn : 1 ≤ (s.syncedPeers slots).length)
    (hk : (s.syncedPeers slots).length ≤ 2 * (s.differingPeers slots).length) :
    s.divergenceNext slots = s.monitor.divergence + 1 := by
  simp [State.divergenceNext, State.divergent, s.comparedCount_eq, s.differingCount_eq, hn, hk]

/-! ## The point of a SYNCED station -/

/-- R73: the divergence count that reaches its limit. -/
theorem State.syncedStep_of_limit {s : State} {slots : Slots} (h : 2 ≤ s.divergenceNext slots) :
    s.syncedStep slots =
      (s.setMonitor { s.monitor with divergence := s.divergenceNext slots }).enterDoubt .divergence :=
  if_pos h

/-- R70: below it, the EVICT duty is formed anew. -/
theorem State.syncedStep_of_below {s : State} {slots : Slots} (h : s.divergenceNext slots < 2) :
    s.syncedStep slots =
      (s.setMonitor { s.monitor with divergence := s.divergenceNext slots }).formEvict :=
  if_neg (Nat.not_le_of_lt h)

theorem State.takeStatus_of_synced {s u : State} {slots : Slots} (hcan : s.canMake .status = true)
    (hread : s.readStatus slots = u) (hst : u.station = .synced) :
    s.takeStatus slots = u.syncedStep slots := by
  rw [State.takeStatus_of_can hcan, hread]
  simp [State.actOnStatus, hst]

/-- The EVICT duty a point forms names its lowest candidate, and is none with no candidate. -/
theorem State.formEvict_selector (s : State) :
    ((∀ a reason, ¬ s.formEvict.isCandidate a reason) →
      s.formEvict.selector = { s.selector with urgent := none })
    ∧ ∀ a reason, s.formEvict.isCandidate a reason →
        (∀ b, b < a → ∀ r, ¬ s.formEvict.isCandidate b r) →
        s.formEvict.selector = { s.selector with urgent := some (.evict a reason) } := by
  have hduty (d : Option UrgentDuty) (h : s.evictDuty = d) :
      s.formEvict.selector = { s.selector with urgent := d } := h ▸ rfl
  exact ⟨fun h => hduty _ (State.evictDuty_eq_none h),
    fun a reason ha hlow => hduty _ (State.evictDuty_of_lowest ha hlow)⟩

/-! ## The divergence count of a SYNCED station's point, by n and k (R73) -/

section
variable {s : State} {slots : Slots}

theorem State.syncedStep_of_no_peer (hst : s.station = .synced) (hdiv : s.monitor.divergence < 2)
    (hn : (s.syncedPeers slots).length = 0) :
    (s.syncedStep slots).station = .synced
    ∧ (s.syncedStep slots).monitor.divergence = s.monitor.divergence := by
  have hnext := State.divergenceNext_of_none hn
  rw [State.syncedStep_of_below (hnext ▸ hdiv)]
  exact ⟨hst, hnext⟩

theorem State.syncedStep_of_few (hst : s.station = .synced)
    (hk : 2 * (s.differingPeers slots).length < (s.syncedPeers slots).length) :
    (s.syncedStep slots).station = .synced ∧ (s.syncedStep slots).monitor.divergence = 0 := by
  have hnext := State.divergenceNext_of_few hk
  rw [State.syncedStep_of_below (hnext ▸ Nat.zero_lt_two)]
  exact ⟨hst, hnext⟩

theorem State.syncedStep_of_first (hst : s.station = .synced) (hdiv : s.monitor.divergence = 0)
    (hn : 1 ≤ (s.syncedPeers slots).length)
    (hk : (s.syncedPeers slots).length ≤ 2 * (s.differingPeers slots).length) :
    (s.syncedStep slots).station = .synced ∧ (s.syncedStep slots).monitor.divergence = 1 := by
  have hnext : s.divergenceNext slots = 1 := by rw [State.divergenceNext_of_divergent hn hk, hdiv]
  rw [State.syncedStep_of_below (hnext ▸ Nat.one_lt_two)]
  exact ⟨hst, hnext⟩

theorem State.syncedStep_of_second (hdiv : s.monitor.divergence = 1)
    (hn : 1 ≤ (s.syncedPeers slots).length)
    (hk : (s.syncedPeers slots).length ≤ 2 * (s.differingPeers slots).length) :
    (s.syncedStep slots).station = .doubt ∧ (s.syncedStep slots).monitor.divergence = 0 := by
  have hnext : s.divergenceNext slots = 2 := by rw [State.divergenceNext_of_divergent hn hk, hdiv]
  rw [State.syncedStep_of_limit (Nat.le_of_eq hnext.symm)]
  exact ⟨rfl, rfl⟩

/-- A station that stays SYNCED has formed its EVICT duty anew and changed nothing else of the selector. -/
theorem State.syncedStep_evict (h : (s.syncedStep slots).station = .synced) :
    ((∀ a reason, ¬ (s.syncedStep slots).isCandidate a reason) →
      (s.syncedStep slots).selector = { s.selector with urgent := none })
    ∧ (∀ a reason, (s.syncedStep slots).isCandidate a reason →
        (∀ b, b < a → ∀ r, ¬ (s.syncedStep slots).isCandidate b r) →
        (s.syncedStep slots).selector = { s.selector with urgent := some (.evict a reason) })
    ∧ (s.syncedStep slots).controller = s.controller ∧ (s.syncedStep slots).events = s.events := by
  rcases Nat.lt_or_ge (s.divergenceNext slots) 2 with hlt | hge
  · rw [State.syncedStep_of_below hlt]
    obtain ⟨hnone, hlowest⟩ := State.formEvict_selector
      (s.setMonitor { s.monitor with divergence := s.divergenceNext slots })
    exact ⟨hnone, hlowest, rfl, rfl⟩
  · rw [State.syncedStep_of_limit hge] at h
    cases h

theorem State.syncedStep_replica (s : State) (slots : Slots) :
    (s.syncedStep slots).zones = s.zones ∧ (s.syncedStep slots).roster = s.roster := by
  unfold State.syncedStep
  split <;> exact ⟨rfl, rfl⟩

end

end Sys2Proof.Machine

open Sys2Proof Sys2Proof.Machine

/-- Settles O31: the status point of a SYNCED station is its divergence check, and its EVICT duty where it does not
doubt; the two limit rows are that point. -/
theorem syncedStatusLimits : Obligations.SyncedStatusLimits := by
  refine ⟨?candidate, ?divergence, ?point⟩
  case candidate =>
    intro slots s hrun hcandidate
    have hexec : exec (.evictionCandidate slots) s = .next (s.takeStatus slots) :=
      congrArg Host.Outcome.next ((State.unlessReset_of_running hrun).trans (if_pos hcandidate))
    simp only [State.hasCandidate, State.diverges, Bool.and_eq_true, beq_iff_eq,
      Bool.not_eq_true'] at hcandidate
    obtain ⟨⟨⟨hcan, hst⟩, hnot⟩, hduty⟩ := hcandidate
    obtain ⟨l, hread⟩ := State.readStatus_of_synced hst
    have hbelow : (s.readStatus slots).divergenceNext slots < 2 := by
      have hle : ¬ Config.divergenceLimit ≤ (s.readStatus slots).divergenceNext slots := by
        simpa only [hcan, hst, beq_self_eq_true, Bool.true_and, decide_eq_false_iff_not] using hnot
      exact Nat.lt_of_not_le hle
    have htake := (State.takeStatus_of_synced hcan rfl hst).trans (State.syncedStep_of_below hbelow)
    obtain ⟨a, reason, hform, ⟨hown, hrole, hrefused, hreason⟩, hlow⟩ := State.evictDuty_isSome hduty
    rw [hread] at hst hform hown hrole hrefused hreason hlow htake
    have hselector : ((s.setLine l).setMonitor (s.nextMonitor slots)).formEvict.selector =
        { s.selector with urgent := some (.evict a reason) } := hform ▸ rfl
    refine ⟨_, a, reason, hexec, ?_⟩
    rw [htake]
    exact ⟨hselector, hown, hrole, hrefused, fun h => by subst h; exact hreason,
      fun h => by subst h; exact hreason, hlow, hst, rfl, rfl, rfl⟩
  case divergence =>
    intro slots s hrun hdiverges hst
    have hexec : exec (.divergence slots) s = .next (s.takeStatus slots) :=
      congrArg Host.Outcome.next ((State.unlessReset_of_running hrun).trans (if_pos hdiverges))
    simp only [State.diverges, Bool.and_eq_true, beq_iff_eq, decide_eq_true_eq] at hdiverges
    obtain ⟨⟨hcan, hstill⟩, hlimit⟩ := hdiverges
    obtain ⟨l, hread⟩ := State.readStatus_of_synced hstill
    have htake := (State.takeStatus_of_synced hcan rfl hstill).trans (State.syncedStep_of_limit hlimit)
    rw [hread] at htake
    refine ⟨_, hexec, ?_⟩
    rw [htake, ← hst]
    exact ⟨rfl, rfl, rfl, rfl, rfl, rfl⟩
  case point =>
    intro slots s hrun hcan hst hclean hdiv
    have ho : s.ownsBits = true := by simp [State.ownsBits, hst]
    obtain ⟨l, hread, -, -⟩ := State.readStatus_clean ho hclean
    have hpoint := State.takeStatus_of_synced hcan hread hst
    refine ⟨_, exec_statusPoint hrun slots, ?_⟩
    rw [hpoint]
    obtain ⟨hzones, hroster⟩ :=
      State.syncedStep_replica ((s.setLine l).setMonitor (s.nextMonitor slots)) slots
    exact ⟨fun hn => State.syncedStep_of_no_peer hst hdiv hn, fun hk => State.syncedStep_of_few hst hk,
      fun hn hk => ⟨fun h0 => State.syncedStep_of_first hst h0 hn hk,
        fun h1 => State.syncedStep_of_second h1 hn hk⟩,
      fun hsynced => State.syncedStep_evict hsynced, hzones, hroster⟩
end

section
/-! SUPPORT. The layouts of the snapshot blocks read back field by field (Tables 11-5 and 11-6), and the statement about
them settled. -/

namespace Sys2Proof.Machine

/-! ## Halves of a byte and 16-bit values (conventions, 7.4) -/

theorem nibbles_toNat {h l : Nat} (hh : h < 16) (hl : l < 16) : (nibbles h l).toNat = h * 16 + l := by
  simp only [nibbles, BitVec.toNat_ofNat]
  omega

theorem highNibble_nibbles (h : Addr) {l : Nat} (hl : l < 16) : highNibble (nibbles h.val l) = h := by
  have hn := nibbles_toNat h.isLt hl
  apply Fin.ext
  simp only [highNibble, hn]
  omega

theorem lowNibble_nibbles {h : Nat} (hh : h < 16) (l : Addr) : lowNibble (nibbles h l.val) = l := by
  have hn := nibbles_toNat hh l.isLt
  apply Fin.ext
  simp only [lowNibble, hn]
  omega

theorem word16_bytes16 (w : BitVec 16) : word16 (w.extractLsb' 8 8) (w.extractLsb' 0 8) = w := by
  apply BitVec.eq_of_getLsbD_eq
  intro i hi
  simp only [word16, BitVec.getLsbD_append, BitVec.getLsbD_extractLsb']
  by_cases h : i < 8
  · simp [h]
  · have hlow : i - 8 < 8 := by omega
    have hsum : 8 + (i - 8) = i := by omega
    simp [h, hlow, hsum]

theorem natByte_toNat {n : Nat} (h : n < 256) : (natByte n).toNat = n := by
  simpa [natByte] using h

/-! ## Codes -/

theorem Role.code_lt (r : Role) : r.code < 4 := by
  cases r <;> decide

@[simp] theorem Role.ofCode_code (r : Role) : Role.ofCode r.code = r := by
  cases r <;> rfl

@[simp] theorem LeaseMode.ofCode_code (m : LeaseMode) : LeaseMode.ofCode m.code = some m := by
  cases m <;> rfl

/-- A lease mode code in the low half of a byte. -/
theorem LeaseMode.ofCode_lowNibble (h : Addr) (m : LeaseMode) :
    LeaseMode.ofCode (lowNibble (nibbles h.val m.code)).val = some m := by
  have hlow : lowNibble (nibbles h.val m.code) = (⟨m.code, by cases m <;> decide⟩ : Addr) :=
    lowNibble_nibbles h.isLt ⟨m.code, by cases m <;> decide⟩
  rw [hlow, LeaseMode.ofCode_code]

/-- Table 11-6: a remaining value in the range of R1 is read back from its code, and so is none. -/
theorem remainingOfCode_remainingCode {r : Option Remaining} (h : r = none ∨ remainingInRange r = true) :
    remainingOfCode (remainingCode r) = r := by
  match r, h with
  | none, _ => rfl
  | some .unlimited, _ => rfl
  | some (.cycles n), h =>
    have hn : 1 ≤ n ∧ n ≤ 16320 := by simpa [remainingInRange] using h
    have hnat : (BitVec.ofNat 16 n).toNat = n := by
      rw [BitVec.toNat_ofNat]
      omega
    have hzero : BitVec.ofNat 16 n ≠ 0 := fun e => by
      have he := congrArg BitVec.toNat e
      rw [hnat] at he
      simp at he
      omega
    have hmax : BitVec.ofNat 16 n ≠ 0xFFFF := fun e => by
      have he := congrArg BitVec.toNat e
      rw [hnat] at he
      simp at he
      omega
    simp only [remainingCode, remainingOfCode, hzero, hmax, if_false, hnat]

/-! ## The roster block (R80, Table 11-5) -/

theorem roleByte_toNat (a b c d : Role) :
    (roleByte a b c d).toNat = a.code * 64 + b.code * 16 + c.code * 4 + d.code := by
  have ha := a.code_lt
  have hb := b.code_lt
  have hc := c.code_lt
  have hd := d.code_lt
  exact natByte_toNat (by omega)

/-- The two bits of each of the four roles of a byte. -/
theorem ofCode_roleByte (f : Fin 4 → Role) (i : Fin 4) :
    Role.ofCode ((roleByte (f 0) (f 1) (f 2) (f 3)).toNat / 4 ^ (3 - i.val) % 4) = f i := by
  have h0 := (f 0).code_lt
  have h1 := (f 1).code_lt
  have h2 := (f 2).code_lt
  have h3 := (f 3).code_lt
  have hdigit : (roleByte (f 0) (f 1) (f 2) (f 3)).toNat / 4 ^ (3 - i.val) % 4 = (f i).code := by
    rw [roleByte_toNat]
    fin_cases i <;> simp <;> omega
  rw [hdigit, Role.ofCode_code]

/-- The place of an address in the role table: its byte, and its role among the four of that byte. -/
def addrAt (byte place : Fin 4) : Addr :=
  ⟨4 * byte.val + place.val, by omega⟩

theorem rosterBlock_roleByte (r : Roster) (byte : Fin 4) :
    (rosterBlock r).getD byte.val 0 =
      roleByte (r.role (addrAt byte 0)) (r.role (addrAt byte 1)) (r.role (addrAt byte 2))
        (r.role (addrAt byte 3)) := by
  fin_cases byte <;> rfl

theorem blockRole_rosterBlock (r : Roster) (a : Addr) : blockRole (rosterBlock r) a = r.role a := by
  have ha : a = addrAt ⟨a.val / 4, by omega⟩ ⟨a.val % 4, by omega⟩ :=
    Fin.ext (Nat.div_add_mod a.val 4).symm
  have hbyte := rosterBlock_roleByte r ⟨a.val / 4, by omega⟩
  have hrole := ofCode_roleByte (fun place => r.role (addrAt ⟨a.val / 4, by omega⟩ place))
    ⟨a.val % 4, by omega⟩
  rw [← ha] at hrole
  rw [blockRole, hbyte]
  exact hrole

theorem rosterBlock_queueLength (r : Roster) : (rosterBlock r).getD 4 0 = natByte r.joinQueue.length := rfl

theorem rosterBlock_queuePair (r : Roster) (k : Fin 7) :
    (rosterBlock r).getD (5 + k.val) 0 =
      nibbles (queuePlace r.joinQueue (2 * k.val)) (queuePlace r.joinQueue (2 * k.val + 1)) := by
  fin_cases k <;> rfl

theorem queuePlace_of_lt {q : List Addr} {i : Nat} (h : i < q.length) : queuePlace q i = q[i].val := by
  simp [queuePlace, h]

theorem queuePlace_lt (q : List Addr) (i : Nat) : queuePlace q i < 16 := by
  unfold queuePlace
  split
  · exact Fin.isLt _
  · decide

/-- Fourteen places in seven bytes hold the join queue, the earlier place of a byte in its high half. -/
theorem blockQueue_rosterBlock {r : Roster} (h : r.joinQueue.length ≤ 14) :
    blockQueue (rosterBlock r) = r.joinQueue := by
  have hlen : ((rosterBlock r).getD 4 0).toNat = r.joinQueue.length := by
    rw [rosterBlock_queueLength, natByte_toNat (by omega)]
  rw [blockQueue, hlen]
  refine List.ext_getElem (by simp) fun i _ hi => ?_
  have hpair := rosterBlock_queuePair r ⟨i / 2, by omega⟩
  simp only at hpair
  simp only [List.getElem_map, List.getElem_range, hpair]
  split
  · have hplace : 2 * (i / 2) = i := by omega
    rw [hplace, queuePlace_of_lt hi, highNibble_nibbles _ (queuePlace_lt _ _)]
  · have hplace : 2 * (i / 2) + 1 = i := by omega
    rw [hplace, queuePlace_of_lt hi, lowNibble_nibbles (queuePlace_lt _ _)]

theorem rosterBlock_progress (r : Roster) : (rosterBlock r).getD 12 0 = progressByte r.progress := rfl

theorem rosterBlock_counter (r : Roster) :
    word16 ((rosterBlock r).getD 13 0) ((rosterBlock r).getD 14 0) = r.counter :=
  word16_bytes16 r.counter

theorem rosterBlock_length (r : Roster) : (rosterBlock r).length = 15 := rfl

theorem blockRoster_rosterBlock {r : Roster} {p : Nat} (hp : r.progress = some p) (hle : p ≤ 64)
    (hq : r.joinQueue.length ≤ 14) : blockRoster (rosterBlock r) = r := by
  have hroles : tabulate 16 (blockRole (rosterBlock r)) = r.roles :=
    vector_ext_get fun a => (tabulate_get _ a).trans (blockRole_rosterBlock r a)
  have hprogress : some ((rosterBlock r).getD 12 0).toNat = r.progress := by
    rw [rosterBlock_progress, hp, progressByte, natByte_toNat (by omega)]
  rw [blockRoster, hroles, blockQueue_rosterBlock hq, hprogress, rosterBlock_counter]

/-! ## The zone block (R81, Table 11-6) -/

theorem zoneBlock_length (e : ZoneEntry) : (zoneBlock e).length = 15 := by
  simp [zoneBlock, bytes16, waitersBytes_length]

theorem ZoneState.code_lt (z : ZoneState) : z.code < 16 := by
  cases z <;> decide

section
variable {e : ZoneEntry}

theorem zoneBlock_head (hq : e.queue.length ≤ 4) :
    ((zoneBlock e).getD 0 0).toNat = e.state.code * 16 + e.queue.length :=
  nibbles_toNat e.state.code_lt (by omega)

theorem blockState_zoneBlock (hq : e.queue.length ≤ 4) : blockState (zoneBlock e) = some e.state := by
  have hcode : ((zoneBlock e).getD 0 0).toNat / 16 = e.state.code := by
    rw [zoneBlock_head hq]
    omega
  rw [blockState, hcode]
  cases e.state <;> rfl

theorem zoneBlock_queueLength (hq : e.queue.length ≤ 4) :
    ((zoneBlock e).getD 0 0).toNat % 16 = e.queue.length := by
  rw [zoneBlock_head hq]
  omega

/-- Byte 6 + j of a zone block is byte j of the waiter records. -/
theorem zoneBlock_waiterByte (e : ZoneEntry) {j : Nat} (hj : j < 8) :
    (zoneBlock e).getD (6 + j) 0 = (e.queue.flatMap waiterBytes).getD j 0 := by
  have hsix : (zoneBlock e).getD (6 + j) 0 = (waitersBytes e.queue ++ [0]).getD j 0 := by
    rw [Nat.add_comm]
    rfl
  have hbyte : (waitersBytes e.queue).getD j 0 = (e.queue.flatMap waiterBytes).getD j 0 := by
    simp [waitersBytes, vectorOf, tabulate, hj]
  rw [hsix, List.getD_append _ _ _ _ (by rw [waitersBytes_length]; exact hj), hbyte]

end

/-- The two bytes of each waiter record of a queue. -/
theorem flatMap_waiterBytes (q : List Waiter) {i : Nat} (h : i < q.length) :
    (q.flatMap waiterBytes).getD (2 * i) 0 = nibbles q[i].station.val q[i].mode.code
    ∧ (q.flatMap waiterBytes).getD (2 * i + 1) 0 = q[i].duration := by
  induction q generalizing i with
  | nil => cases h
  | cons w q ih =>
    cases i with
    | zero => exact ⟨rfl, rfl⟩
    | succ i => exact ih (Nat.lt_of_succ_lt_succ h)

section
variable {e : ZoneEntry} (hq : e.queue.length ≤ 4)
include hq

/-- Bytes 6 + 2i and 7 + 2i of a zone block are the waiter record i. -/
theorem zoneBlock_waiter {i : Nat} (hi : i < e.queue.length) :
    (zoneBlock e).getD (6 + 2 * i) 0 = nibbles e.queue[i].station.val e.queue[i].mode.code
    ∧ (zoneBlock e).getD (7 + 2 * i) 0 = e.queue[i].duration := by
  have hseven : 7 + 2 * i = 6 + (2 * i + 1) := by omega
  rw [hseven, zoneBlock_waiterByte e (by omega), zoneBlock_waiterByte e (by omega)]
  exact flatMap_waiterBytes e.queue hi

theorem blockWaiters_zoneBlock : blockWaiters (zoneBlock e) = e.queue := by
  rw [blockWaiters, zoneBlock_queueLength hq]
  refine List.ext_getElem (by simp) fun i _ hi => ?_
  obtain ⟨hrecord, hduration⟩ := zoneBlock_waiter hq hi
  have hmode : e.queue[i].mode.code < 16 := by cases e.queue[i].mode <;> decide
  simp only [List.getElem_map, List.getElem_range, hrecord, hduration,
    highNibble_nibbles _ hmode, LeaseMode.ofCode_lowNibble, Option.getD_some]

theorem blockModesValid_zoneBlock : blockModesValid (zoneBlock e) = true := by
  rw [blockModesValid, zoneBlock_queueLength hq, List.all_eq_true]
  intro i hi
  rw [(zoneBlock_waiter hq (List.mem_range.mp hi)).1, LeaseMode.ofCode_lowNibble]
  rfl

end

/-- R1: a well-formed entry has at most four waiters, and a remaining value in range or none. -/
theorem EntryForm.fields {e : ZoneEntry} (h : EntryForm e) :
    e.queue.length ≤ 4 ∧ (e.remaining = none ∨ remainingInRange e.remaining = true) := by
  refine ⟨h.queueFits.length, ?_⟩
  cases h with
  | free hfree => exact .inl (by rw [hfree]; rfl)
  | held _ hremaining _ => exact .inr hremaining

theorem blockEntry_zoneBlock {e : ZoneEntry} (h : EntryForm e) : blockEntry (zoneBlock e) = e := by
  obtain ⟨hq, hremaining⟩ := h.fields
  have hholders : word16 ((zoneBlock e).getD 1 0) ((zoneBlock e).getD 2 0) = e.holders :=
    word16_bytes16 e.holders
  have hcode : word16 ((zoneBlock e).getD 3 0) ((zoneBlock e).getD 4 0) = remainingCode e.remaining :=
    word16_bytes16 _
  have hgeneration : (zoneBlock e).getD 5 0 = e.generation := rfl
  rw [blockEntry, blockState_zoneBlock hq, hholders, hcode, remainingOfCode_remainingCode hremaining,
    hgeneration, blockWaiters_zoneBlock hq]
  rfl

theorem zoneBlockValid_zoneBlock {e : ZoneEntry} (h : EntryForm e) :
    zoneBlockValid (zoneBlock e) = true := by
  obtain ⟨hq, -⟩ := h.fields
  rw [zoneBlockValid, blockState_zoneBlock hq, blockModesValid_zoneBlock hq, blockEntry_zoneBlock h,
    (ZoneEntry.wf_iff_form e).mpr h]
  rfl

end Sys2Proof.Machine

open Sys2Proof Sys2Proof.Machine

/-- Settles O51: each field of a block is read back from the bytes that carry it. -/
theorem blocksReadBack : Obligations.BlocksReadBack := by
  refine ⟨fun e he => ?zone, fun r p hp hle hq => ?roster⟩
  case zone =>
    have hform := (ZoneEntry.wf_iff_form e).mp he
    exact ⟨zoneBlock_length e, blockEntry_zoneBlock hform, zoneBlockValid_zoneBlock hform⟩
  case roster => exact ⟨rosterBlock_length r, blockRoster_rosterBlock hp hle hq⟩
end

section
/-! SUPPORT. The verdict point in closed form: what the reading of the verdict copies leaves (R34, R144), the point of an
idle cycle (R91, R129), and the statement about the limits at the end of a cycle settled. -/

namespace Sys2Proof.Machine

/-! ## What the reading of the copies leaves -/

/-- The message as read, the claim-active flag and the commits seen are the same. -/
structure Line.SameMessage (l l' : Line) : Prop where
  receive     : l'.receive = l.receive
  intact      : l'.intact = l.intact
  claimActive : l'.claimActive = l.claimActive
  commitsSeen : l'.counters.commitsSeen = l.counters.commitsSeen

theorem Line.SameMessage.refl (l : Line) : l.SameMessage l := ⟨rfl, rfl, rfl, rfl⟩

/-- The state with another Verdict Unit and another Line Interface that hold the same claim segment and message: all
that the reading of the verdict copies changes where the station does not fault. -/
inductive State.SameCycle (s : State) : State → Prop
  | mk (v : VerdictUnit) (l : Line) (claim : v.claim = s.verdict.claim) (message : s.line.SameMessage l) :
      s.SameCycle ((s.setVerdict v).setLine l)

namespace State.SameCycle

variable {s t u : State}

theorem of_line {l : Line} (h : s.line.SameMessage l) : s.SameCycle (s.setLine l) :=
  .mk s.verdict l rfl h

theorem of_verdict {v : VerdictUnit} (h : v.claim = s.verdict.claim) : s.SameCycle (s.setVerdict v) :=
  .mk v s.line h (.refl s.line)

theorem refl (s : State) : s.SameCycle s := of_line (.refl s.line)

theorem trans (h : s.SameCycle t) (h' : t.SameCycle u) : s.SameCycle u := by
  obtain ⟨v, l, hclaim, hmessage⟩ := h
  obtain ⟨v', l', hclaim', hmessage'⟩ := h'
  exact .mk v' l' (hclaim'.trans hclaim)
    ⟨hmessage'.receive.trans hmessage.receive, hmessage'.intact.trans hmessage.intact,
      hmessage'.claimActive.trans hmessage.claimActive, hmessage'.commitsSeen.trans hmessage.commitsSeen⟩

theorem ite {c : Prop} [Decidable c] (h : c → s.SameCycle t) (h' : ¬ c → s.SameCycle u) :
    s.SameCycle (if c then t else u) := by
  split
  · exact h ‹_›
  · exact h' ‹_›

theorem claim_eq (h : s.SameCycle t) : t.verdict.claim = s.verdict.claim := by
  obtain ⟨v, l, hclaim, -⟩ := h
  exact hclaim

theorem acquiring_eq (h : s.SameCycle t) : t.acquiring = s.acquiring := by
  cases h
  rfl

theorem holdOffLast_eq (h : s.SameCycle t) : t.holdOffLast = s.holdOffLast := by
  cases h
  rfl

/-- R32: the message a station decides on is that of the claim segment and the receive register. -/
theorem cycleMessage_eq (h : s.SameCycle t) : t.cycleMessage = s.cycleMessage := by
  obtain ⟨v, l, hclaim, hmessage⟩ := h
  have hsender : ((s.setVerdict v).setLine l).claimSender = s.claimSender := by
    simp [State.claimSender, hclaim]
  have hknown : ((s.setVerdict v).setLine l).knownMessage = s.knownMessage := rfl
  simp [State.cycleMessage, hsender, hknown, hmessage.receive, hmessage.intact]

/-- R43 to R46: and so the decision from a copy is the same. -/
theorem commits_eq (h : s.SameCycle t) (copy : VerdictCopy) : t.commits copy = s.commits copy := by
  have hcycle := h.cycleMessage_eq
  have hfound : t.ownFound = s.ownFound := by
    have hst : t.station = s.station := by
      cases h
      rfl
    rw [State.ownFound, hst, hcycle]
    rfl
  have haccepted : t.acceptance copy = s.acceptance copy := by
    rw [State.acceptance, hfound]
    cases h
    rfl
  have hneeded : t.needed = s.needed := by
    rw [State.needed, hfound, hcycle]
    cases h
    rfl
  rw [State.commits, hneeded, haccepted]
  rfl

end State.SameCycle

/-! ## The readback of the verdict bits (R144, R145) -/

theorem Line.sameMessage_afterMismatch (l : Line) : l.SameMessage l.afterMismatch := ⟨rfl, rfl, rfl, rfl⟩

theorem State.clearRun_sameCycle (s : State) : s.SameCycle s.clearRun :=
  .of_line ⟨rfl, rfl, rfl, rfl⟩

theorem State.settleRun_sameCycle (s : State) : s.SameCycle s.settleRun :=
  .ite (fun _ => s.clearRun_sameCycle) (fun _ => .refl s)

theorem State.ownedMismatch_cases (s : State) :
    s.SameCycle s.ownedMismatch ∨ s.ownedMismatch.station = .faulted := by
  cases hseen : s.line.mismatchSeen with
  | true =>
    have hsame : s.ownedMismatch = s := if_pos hseen
    rw [hsame]
    exact .inl (.refl s)
  | false =>
    by_cases hrun : Config.readbackLimit ≤ s.line.runCount + 1
    · exact .inr (State.ownedMismatch_of_limit hseen hrun ▸ rfl)
    · rw [State.ownedMismatch_of_below hseen (Nat.lt_of_not_le hrun)]
      exact .inl (.of_line s.line.sameMessage_afterMismatch)

/-- With no stance taken no verdict bit is owned. -/
theorem State.readBackVerdict_of_no_stance {s : State} (h : s.verdict.stance = .notTaken) (a b : VerdictCopy) :
    s.SameCycle (s.readBackVerdict a b) := by
  unfold State.readBackVerdict
  cases s.own with
  | none => exact .refl s
  | some own => simpa only [h, true_or, if_true] using s.settleRun_sameCycle

theorem State.readBackVerdict_cases (s : State) (a b : VerdictCopy) :
    s.SameCycle (s.readBackVerdict a b) ∨ (s.readBackVerdict a b).station = .faulted := by
  unfold State.readBackVerdict
  split
  · split
    · exact .inl s.settleRun_sameCycle
    · split
      · exact s.ownedMismatch_cases
      · exact .inl (.ite (fun _ => .refl s) (fun _ => s.clearRun_sameCycle))
  · exact .inl (.refl s)

/-! ## The point up to the decision -/

/-- The copies in the Verdict Unit, before the owned verdict bits are read back (R34, R140). -/
def State.copiesRead (s : State) (a b : VerdictCopy) : State :=
  let t := s.makePoint .verdict 499
  if t.line.claimActive then t.setVerdict { t.verdict with copyA := a, copyB := b } else t

theorem State.readVerdict_eq (s : State) (a b : VerdictCopy) :
    s.readVerdict a b = (s.copiesRead a b).readBackVerdict a b := rfl

theorem State.copiesRead_sameCycle (s : State) (a b : VerdictCopy) : s.SameCycle (s.copiesRead a b) := by
  have hpoint : s.SameCycle (s.makePoint .verdict 499) := .of_line ⟨rfl, rfl, rfl, rfl⟩
  exact .ite (fun _ => hpoint.trans (.of_verdict rfl)) (fun _ => hpoint)

theorem State.copiesRead_stance (s : State) (a b : VerdictCopy) :
    (s.copiesRead a b).verdict.stance = s.verdict.stance := by
  unfold State.copiesRead
  dsimp only
  split <;> rfl

theorem State.readVerdict_of_survives {s : State} {a b : VerdictCopy} (h : s.survives a b = true)
    (hst : s.station ≠ .faulted) : s.SameCycle (s.readVerdict a b) := by
  rcases (s.copiesRead a b).readBackVerdict_cases a b with hsame | hfault
  · exact (s.copiesRead_sameCycle a b).trans hsame
  · have hread : (s.readVerdict a b).station = s.station := by simpa [State.survives] using h
    exact absurd (hread.symm.trans hfault) hst

theorem State.readVerdict_of_no_stance {s : State} (h : s.verdict.stance = .notTaken) (a b : VerdictCopy) :
    s.SameCycle (s.readVerdict a b) :=
  (s.copiesRead_sameCycle a b).trans
    (State.readBackVerdict_of_no_stance ((s.copiesRead_stance a b).trans h) a b)

theorem State.compareCopies_sameCycle (s : State) (a b : VerdictCopy) : s.SameCycle (s.compareCopies a b) :=
  .ite (fun _ => .of_line ⟨rfl, rfl, rfl, rfl⟩) (fun _ => .refl s)

theorem State.runHoldOffs_of_acquiring {s : State} (h : s.acquiring = true) : s.runHoldOffs = s := by
  rcases State.station_of_acquiring h with hst | hst <;> simp [State.runHoldOffs, hst]

theorem State.runHoldOffs_of_seeking {s : State} (h : s.station = .seeking) :
    s.runHoldOffs = s.setSelector { s.selector with seekHold := s.selector.seekHold - 1 } := by
  simp [State.runHoldOffs, h]

theorem State.runHoldOffs_of_synced {s : State} (h : s.station = .synced) :
    s.runHoldOffs = s.setSelector { s.selector with snapHold := s.selector.snapHold - 1 } := by
  simp [State.runHoldOffs, h]

theorem State.runHoldOffs_verdict (s : State) : s.runHoldOffs.verdict = s.verdict := by
  unfold State.runHoldOffs
  split <;> rfl

theorem State.runHoldOffs_acquiring (s : State) : s.runHoldOffs.acquiring = s.acquiring := by
  unfold State.runHoldOffs
  split <;> rfl

theorem State.clearServed_acquiring (s : State) : s.clearServed.acquiring = s.acquiring := by
  unfold State.clearServed
  split <;> rfl

theorem State.clearServed_of_idle {s : State} (h : s.verdict.claim = some .idle) :
    s.clearServed = s.setSelector { s.selector with served := false } := by
  simp [State.clearServed, State.claimIdle, h]

theorem State.clearServed_of_winner {s : State} {cls : BitVec 2} {addr : Addr}
    (h : s.verdict.claim = some (.winner cls addr)) : s.clearServed = s := by
  simp [State.clearServed, State.claimIdle, h]

theorem exec_verdictPoint {s : State} (hrun : s.running) (a b : VerdictCopy) :
    exec (.verdictPoint a b) s = .next (s.takeVerdict a b) :=
  congrArg Host.Outcome.next (State.unlessReset_of_running hrun)

/-! ## The verdict point of an idle cycle -/

theorem State.decision_of_idle {s : State} (h : s.verdict.claim = some .idle) (a b : VerdictCopy) :
    s.decision a b = none := by
  simp [State.decision, State.decides, State.claimHeldWinner, h]

theorem State.judge_of_no_decision {s : State} {a b : VerdictCopy} (h : s.decision a b = none) :
    s.judge a b = s := by
  rw [State.judge, h]

/-- R91: a cycle without a decision is one more for the stall count. -/
theorem State.updateStall_of_no_decision {s : State} {a b : VerdictCopy} (h : s.decision a b = none) :
    s.updateStall s a b = s.stallStep := by
  cases hacq : s.acquiring <;>
    simp [State.updateStall, State.snapCommitted, State.stallStep, State.stallDue, h, hacq]

/-- An idle cycle runs the hold-offs, clears the served flag and counts a cycle for the stall count. -/
theorem State.takeVerdict_of_idle {s : State} (hcan : s.canMake .verdict = true)
    (hidle : s.verdict.claim = some .idle) (hstance : s.verdict.stance = .notTaken) (a b : VerdictCopy) :
    ∃ t, s.SameCycle t ∧ s.reachVerdict a b = t.runHoldOffs.clearServed
      ∧ (t.runHoldOffs.clearServed).decision a b = none
      ∧ s.takeVerdict a b = (t.runHoldOffs.clearServed).stallStep.dropFlight := by
  have hsame := (State.readVerdict_of_no_stance hstance a b).trans
    ((s.readVerdict a b).compareCopies_sameCycle a b)
  refine ⟨_, hsame, rfl, ?_⟩
  have hclaim : ((s.readVerdict a b).compareCopies a b).runHoldOffs.verdict.claim = some .idle := by
    rw [State.runHoldOffs_verdict, hsame.claim_eq, hidle]
  have hnone : (s.reachVerdict a b).decision a b = none := by
    rw [State.reachVerdict, State.clearServed_of_idle hclaim]
    exact State.decision_of_idle hclaim a b
  refine ⟨hnone, ?_⟩
  rw [State.takeVerdict, if_pos hcan]
  show (((s.reachVerdict a b).judge a b).updateStall (s.reachVerdict a b) a b).dropFlight = _
  rw [State.judge_of_no_decision hnone, State.updateStall_of_no_decision hnone]
  rfl

/-! ## Join stall and arrival in STANDBY (R91, R110) -/

theorem State.stallStep_of_due {s : State} (h : s.stallDue = true) : s.stallStep = s.countStall.joinStall := by
  simp [State.stallStep, h]

theorem State.stallStep_of_not_acquiring {s : State} (h : s.acquiring = false) : s.stallStep = s := by
  simp [State.stallStep, State.stallDue, h]

theorem State.joinStall_of_joining {s : State} (h : s.station = .joining) :
    s.joinStall = s.backToSeeking .joinStall := by
  simp [State.joinStall, h]

theorem State.joinStall_of_leaving {s : State} (h : s.station = .leaving) :
    s.joinStall = s.arriveStandby .joinStall := by
  simp [State.joinStall, h]

theorem State.arriveStandby_of_stay {s : State} (h : s.controller.config.rejoin = false)
    (reason : StateReason) : s.arriveStandby reason = s.depart .standby reason := by
  have hconfig : (s.depart .standby reason).controller.config = s.controller.config := rfl
  simp [State.arriveStandby, State.rejoin, hconfig, h]

/-- JOIN_STALL of an idle cycle: the counts and the served flag change nothing that the departure does not clear. -/
theorem exec_joinStall_of_idle {s : State} (hrun : s.running) (hcan : s.canMake .verdict = true)
    (hidle : s.verdict.claim = some .idle) (hstance : s.verdict.stance = .notTaken)
    (hstall : s.snapshot.stall = 127) (hacq : s.acquiring = true) (a b : VerdictCopy) :
    ∃ u : State, u.controller = s.controller
      ∧ exec (.joinStall (.verdict a b)) s = .next u.joinStall.dropFlight := by
  obtain ⟨t, hsame, hreach, hnone, htake⟩ := State.takeVerdict_of_idle hcan hidle hstance a b
  have hclaim : t.verdict.claim = some .idle := hsame.claim_eq.trans hidle
  obtain ⟨v, l, -, -⟩ := hsame
  have hacq' : ((s.setVerdict v).setLine l).acquiring = true := hacq
  rw [State.runHoldOffs_of_acquiring hacq', State.clearServed_of_idle hclaim] at hreach hnone htake
  generalize hu : ((s.setVerdict v).setLine l).setSelector _ = u at hreach hnone htake
  have hdue : u.stallDue = true := by
    subst hu
    have hcount : Config.stallLimit ≤ s.snapshot.stall + 1 := by simp [hstall, Config.stallLimit]
    exact Bool.and_eq_true_iff.mpr ⟨hacq, decide_eq_true hcount⟩
  have hlimit : s.stallsAt (.verdict a b) = true := by
    have hacqu : u.acquiring = true := (Bool.and_eq_true_iff.mp hdue).1
    simp [State.stallsAt, State.stallsAtVerdict, State.snapCommitted, hcan, hreach, hnone,
      State.judge_of_no_decision hnone, hacqu, hdue]
  have hexec : exec (.joinStall (.verdict a b)) s = .next (s.takeVerdict a b) :=
    congrArg Host.Outcome.next ((State.unlessReset_of_running hrun).trans (if_pos hlimit))
  refine ⟨u.countStall, by subst hu; rfl, ?_⟩
  rw [hexec, htake, State.stallStep_of_due hdue]

/-! ## The last cycle of a hold-off (R129) -/

/-- HOLD_OFF_EXPIRY of an idle cycle at a station that acquires no replica. -/
theorem exec_holdOffExpiry_of_idle {s : State} (hrun : s.running) (hcan : s.canMake .verdict = true)
    (hidle : s.verdict.claim = some .idle) (hstance : s.verdict.stance = .notTaken)
    (hacq : s.acquiring = false) (hlast : s.holdOffLast = true) (a b : VerdictCopy) :
    ∃ t, s.SameCycle t
      ∧ exec (.holdOffExpiry (.verdict a b)) s =
          .next (t.runHoldOffs.setSelector { t.runHoldOffs.selector with served := false }).dropFlight := by
  obtain ⟨t, hsame, -, -, htake⟩ := State.takeVerdict_of_idle hcan hidle hstance a b
  have hends : s.holdOffEnds (.verdict a b) = true := by
    have hread := (State.readVerdict_of_no_stance hstance a b).holdOffLast_eq
    simp [State.holdOffEnds, hcan, hread, hlast]
  have hexec : exec (.holdOffExpiry (.verdict a b)) s = .next (s.takeVerdict a b) :=
    congrArg Host.Outcome.next ((State.unlessReset_of_running hrun).trans (if_pos hends))
  have hstill : (t.runHoldOffs.clearServed).acquiring = false := by
    rw [State.clearServed_acquiring, State.runHoldOffs_acquiring, hsame.acquiring_eq, hacq]
  have hclaim : t.runHoldOffs.verdict.claim = some .idle := by
    rw [State.runHoldOffs_verdict, hsame.claim_eq, hidle]
  refine ⟨t, hsame, ?_⟩
  rw [hexec, htake, State.stallStep_of_not_acquiring hstill, State.clearServed_of_idle hclaim]

end Sys2Proof.Machine

open Sys2Proof Sys2Proof.Machine

/-- Settles O47: an idle cycle has no decision, so its end is the hold-offs, the served flag and the stall count. -/
theorem cycleEndLimits : Obligations.CycleEndLimits := by
  refine ⟨fun a b s hrun hcan hidle hstance hstall => ⟨?joining, ?leaving⟩,
    fun a b s hrun hcan hidle hstance => ⟨?seeking, ?synced⟩⟩
  case joining =>
    intro hst
    have hacq : s.acquiring = true := by simp [State.acquiring, hst]
    obtain ⟨u, hu, hexec⟩ := exec_joinStall_of_idle hrun hcan hidle hstance hstall hacq a b
    have hstu : u.station = .joining := (congrArg Controller.station hu).trans hst
    refine ⟨_, hexec, ?_⟩
    rw [State.joinStall_of_joining hstu]
    exact ⟨rfl, rfl, rfl, rfl, rfl⟩
  case leaving =>
    intro hst hrole hrejoin
    have hacq : s.acquiring = true := by simp [State.acquiring, hst, hrole]
    obtain ⟨u, hu, hexec⟩ := exec_joinStall_of_idle hrun hcan hidle hstance hstall hacq a b
    have hstu : u.station = .leaving := (congrArg Controller.station hu).trans hst
    have hstay : u.controller.config.rejoin = false := hu ▸ hrejoin
    refine ⟨_, hexec, ?_⟩
    rw [State.joinStall_of_leaving hstu, State.arriveStandby_of_stay hstay]
    exact ⟨rfl, rfl, rfl, rfl, rfl⟩
  case seeking =>
    intro hst hhold
    have hlast : s.holdOffLast = true := by simp [State.holdOffLast, hst, hhold]
    have hacq : s.acquiring = false := by simp [State.acquiring, hst]
    obtain ⟨t, hsame, hexec⟩ := exec_holdOffExpiry_of_idle hrun hcan hidle hstance hacq hlast a b
    obtain ⟨v, l, -, -⟩ := hsame
    have hcount : ((s.setVerdict v).setLine l).runHoldOffs = _ := State.runHoldOffs_of_seeking hst
    rw [hcount] at hexec
    refine ⟨_, hexec, ?selector, ?offer, rfl⟩
    case selector => simp [State.dropFlight, hhold]
    case offer =>
      have hseeking : s.controller.station = .seeking := hst
      simp [State.syncOffer, State.syncHold, State.dropFlight, State.station, hseeking, hhold]
  case synced =>
    intro hst hhold
    have hlast : s.holdOffLast = true := by simp [State.holdOffLast, hst, hhold]
    have hacq : s.acquiring = false := by simp [State.acquiring, hst]
    obtain ⟨t, hsame, hexec⟩ := exec_holdOffExpiry_of_idle hrun hcan hidle hstance hacq hlast a b
    obtain ⟨v, l, -, -⟩ := hsame
    have hcount : ((s.setVerdict v).setLine l).runHoldOffs = _ := State.runHoldOffs_of_synced hst
    rw [hcount] at hexec
    refine ⟨_, hexec, ?selector, rfl, rfl, rfl⟩
    case selector => simp [State.dropFlight, hhold]
end

section
/-! SUPPORT. The verdict point of a committed message at an acquiring station: the message, its effect and the stall
count (R32, R46, R91). -/

namespace Sys2Proof.Machine

/-! ## The message of a committed cycle -/

theorem bodyOf_kind (k : Kind) (p : List Byte) : (bodyOf k p).kind = k := by
  cases k <;> rfl

section
variable {s : State} {a b : VerdictCopy} {addr : Addr} {k : Kind} {body : Body}

theorem State.readsCommit_cycleMessage (h : s.readsCommit a b addr k body) :
    s.cycleMessage = { kind := some k, sender := addr, body := some body } := by
  obtain ⟨-, -, -, ⟨cls, hclaim⟩, ⟨bytes, hbytes, hkind, hbody⟩, hintact, -, -⟩ := h
  simp [State.cycleMessage, hbytes, hintact, cycleMessageOf, State.claimSender, hclaim, hkind, hbody]

theorem State.readsCommit_kind (h : s.readsCommit a b addr k body) : body.kind = k := by
  obtain ⟨-, -, -, -, ⟨bytes, -, -, hbody⟩, -, -, -⟩ := h
  rw [← hbody, bodyOf_kind]

/-- A cycle with a message leaves the hold-offs and the served flag of an acquiring station as they are. -/
theorem State.reachVerdict_of_readsCommit (h : s.readsCommit a b addr k body) (hacq : s.acquiring = true) :
    s.SameCycle (s.reachVerdict a b) := by
  obtain ⟨-, -, hsurvives, ⟨cls, hclaim⟩, -, -, -, -⟩ := h
  have hst : s.station ≠ .faulted := by
    rcases State.station_of_acquiring hacq with hst | hst <;> simp [hst]
  have hsame := (State.readVerdict_of_survives hsurvives hst).trans
    ((s.readVerdict a b).compareCopies_sameCycle a b)
  rw [State.reachVerdict, State.runHoldOffs_of_acquiring (hsame.acquiring_eq.trans hacq),
    State.clearServed_of_winner (hsame.claim_eq.trans hclaim)]
  exact hsame

/-! ## The decision and the effect -/

theorem State.decides_of_acquiring {cls : BitVec 2} (hacq : s.acquiring = true)
    (hclaim : s.verdict.claim = some (.winner cls addr)) : s.decides = true := by
  rcases State.station_of_acquiring hacq with hst | hst <;>
    simp [State.decides, State.claimHeldWinner, hclaim, hst]

theorem State.intactCommit_of_acquiring (hacq : s.acquiring = true) :
    s.intactCommit addr body = s.clusterCommit addr body := by
  rcases State.station_of_acquiring hacq with hst | hst <;> simp [State.intactCommit, hst]

theorem State.onCommitted_of_intact (hintact : s.line.intact = some true)
    (hmessage : s.cycleMessage = { kind := some k, sender := addr, body := some body }) :
    s.onCommitted = s.countCommit.intactCommit addr body := by
  simp [State.onCommitted, State.readIntact, hintact, hmessage]

/-- R91: the stall count after a committed message of a kind, at a station that was acquiring a replica. -/
def State.stallAfter (s : State) (k : Kind) : State :=
  if s.acquiring || s.station == .doubt then
    if k = .snap then s.setSnapshot { s.snapshot with stall := 0 }
    else if s.acquiring then s.stallStep
    else s.countStall
  else s

theorem State.updateStall_of_committed {u : State} (hacq : s.acquiring = true)
    (hdecision : s.decision a b = some .committed)
    (hmessage : s.cycleMessage = { kind := some k, sender := addr, body := some body }) :
    u.updateStall s a b = u.stallAfter k := by
  simp [State.updateStall, State.stallAfter, State.snapCommitted, hacq, hdecision, hmessage]

/-- The verdict point of a committed message at an acquiring station: the commit counted, the effect of the message,
the stall count, and the message in flight dropped. -/
theorem State.takeVerdict_of_readsCommit (h : s.readsCommit a b addr k body) (hacq : s.acquiring = true) :
    ∃ v l, l.counters.commitsSeen = min (s.line.counters.commitsSeen + 1) 65535
      ∧ s.takeVerdict a b =
          ((((s.setVerdict v).setLine l).clusterCommit addr body).stallAfter k).dropFlight := by
  have hsame := State.reachVerdict_of_readsCommit h hacq
  have hmessage := hsame.cycleMessage_eq.trans (State.readsCommit_cycleMessage h)
  obtain ⟨-, hcan, -, ⟨cls, hclaim⟩, -, hintact, ha, hb⟩ := h
  have hacq' := hsame.acquiring_eq.trans hacq
  have hdecides := State.decides_of_acquiring hacq' (hsame.claim_eq.trans hclaim)
  have hdecision : (s.reachVerdict a b).decision a b = some .committed := by
    simp [State.decision, hdecides, hsame.commits_eq, ha, hb]
  have htake : s.takeVerdict a b =
      (((s.reachVerdict a b).onCommitted).stallAfter k).dropFlight := by
    rw [State.takeVerdict, if_pos hcan]
    show (((s.reachVerdict a b).judge a b).updateStall (s.reachVerdict a b) a b).dropFlight = _
    rw [State.updateStall_of_committed hacq' hdecision hmessage, State.judge, hdecision]
  generalize s.reachVerdict a b = t at hsame hmessage hacq' htake
  obtain ⟨v, l, -, hline⟩ := hsame
  refine ⟨v, { l with counters := { l.counters with commitsSeen := lineCount l.counters.commitsSeen } },
    congrArg lineCount hline.commitsSeen, ?_⟩
  rw [htake, State.onCommitted_of_intact (hline.intact.trans hintact) hmessage,
    State.intactCommit_of_acquiring (s := ((s.setVerdict v).setLine l).countCommit) hacq']
  rfl

/-! ## The stall count (R91) -/

/-- What the end of its cycle leaves of a station that a commit has acted on, but for its stall count. -/
structure State.Settles (u t : State) : Prop where
  controller : t.controller = u.controller
  zones      : t.zones = u.zones
  roster     : t.roster = u.roster
  events     : t.events = u.events
  line       : t.line = u.line
  loaded     : t.snapshot.loaded = u.snapshot.loaded

theorem State.Settles.station {u t : State} (h : u.Settles t) : t.station = u.station :=
  congrArg Controller.station h.controller

/-- Where a SNAP leaves the station a joiner or in DOUBT, its stall count is 0. -/
theorem State.stallAfter_snap {t : State} (ht : t = s) (h : s.station = .joining ∨ s.station = .doubt) :
    s.Settles (t.stallAfter .snap).dropFlight ∧ (t.stallAfter .snap).dropFlight.snapshot.stall = 0 := by
  have hstall : t.stallAfter .snap = s.setSnapshot { s.snapshot with stall := 0 } := by
    subst ht
    rcases h with hst | hst <;> simp [State.stallAfter, State.acquiring, hst]
  rw [hstall]
  exact ⟨⟨rfl, rfl, rfl, rfl, rfl, rfl⟩, rfl⟩

/-- Any other commit is one more cycle for the stall count of a station that goes on acquiring. -/
theorem State.stallAfter_of_acquiring {t : State} (ht : t = s) (hacq : s.acquiring = true) (hk : k ≠ .snap)
    (hbelow : s.snapshot.stall + 1 < Config.stallLimit) :
    s.Settles (t.stallAfter k).dropFlight
    ∧ (t.stallAfter k).dropFlight.snapshot.stall = s.snapshot.stall + 1 := by
  have hnot : ¬ Config.stallLimit ≤ s.snapshot.stall + 1 := Nat.not_le_of_lt hbelow
  have hstall : t.stallAfter k = s.setSnapshot { s.snapshot with stall := s.snapshot.stall + 1 } := by
    subst ht
    simp [State.stallAfter, State.stallStep, State.stallDue, State.countStall, saturate, hacq, hk, hnot,
      Nat.min_eq_left hbelow.le]
  rw [hstall]
  exact ⟨⟨rfl, rfl, rfl, rfl, rfl, rfl⟩, rfl⟩

/-- A station that the commit made leave the cluster, or brought to SYNCED, has no stall count to keep. -/
theorem State.stallAfter_of_settled {t : State} (ht : t = s)
    (h : s.station = .synced ∨ s.station = .seeking ∨ s.station = .standby) : t.stallAfter k = s := by
  subst ht
  rcases h with hst | hst | hst <;> simp [State.stallAfter, State.acquiring, hst]

theorem State.stall_lt_of_not_due (hacq : s.acquiring = true) (h : s.stallDue = false) :
    s.snapshot.stall + 1 < Config.stallLimit := by
  simpa [State.stallDue, hacq] using h

end

end Sys2Proof.Machine
end

section
/-! SUPPORT. A committed SNAP at a JOINING station, case by case of its roster and of the block's index (R83 to R90). -/

namespace Sys2Proof.Machine

/-! ## The blocks loaded (R84, R85) -/

theorem blockRoster_progress {content : List Byte} (h : rosterBlockValid content = true) :
    (blockRoster content).progress = some 0 := by
  simp only [rosterBlockValid, Bool.and_eq_true, beq_iff_eq] at h
  rw [blockRoster, h.2]
  rfl

theorem blockRoster_joiner {content : List Byte} (h : rosterBlockValid content = true) :
    ∃ j, (blockRoster content).joiner = some j := by
  refine Option.ne_none_iff_exists'.mp fun hnone => ?_
  have hidle := (Roster.joiner_eq_none_iff _).mp hnone
  simp only [rosterBlockValid, Bool.and_eq_true, beq_iff_eq] at h
  obtain ⟨⟨⟨⟨-, hcount⟩, -⟩, -⟩, -⟩ := h
  have hzero : countAddrs (fun a => (blockRoster content).role a == .joining) = 0 := by
    simp [countAddrs, hidle]
  rw [hcount] at hzero
  cases hzero

/-- R84: a roster as its own block's commit leaves it. -/
def Roster.afterBlock (r : Roster) : Roster :=
  { r with progress := some 1, counter := r.counter + 1 }

theorem blockRoster_applySnap {content : List Byte} (h : rosterBlockValid content = true) :
    (blockRoster content).advance.applySnap 0 = (blockRoster content).afterBlock := by
  obtain ⟨j, hj⟩ := blockRoster_joiner h
  exact Roster.applySnap_of_inner (r := (blockRoster content).advance) hj (blockRoster_progress h) (by decide)

theorem blockZone_succ (z : ZoneId) : blockZone (z.val + 1) = some z := by
  have hz : z.val + 1 ≤ 64 := z.isLt
  simp [blockZone, hz]

section
variable {s : State} {own sender : Addr} {content : List Byte}

theorem State.loadRoster_of_valid (h : rosterBlockValid content = true) :
    s.loadRoster content =
      (s.setRoster (blockRoster content).afterBlock).setSnapshot { s.snapshot with loaded := 1 } := by
  rw [State.loadRoster, if_pos h, blockRoster_applySnap h]
  rfl

theorem State.loadZone_of_valid (h : zoneBlockValid content = true) (z : ZoneId) :
    s.loadZone (z.val + 1) content = s.setZones (put s.zones z (blockEntry content)) := by
  simp [State.loadZone, blockZone_succ, h]

/-! ## The roster a joiner holds (R83) -/

theorem State.ownRole_of_own (hown : s.own = some own) : s.ownRole = s.roster.role own := by
  simp [State.ownRole, hown]

theorem State.joinerSnap_of_no_roster (hst : s.station = .joining) (hloaded : s.snapshot.loaded = 0)
    (index : Nat) : s.joinerSnap sender index content = s.firstBlock index content := by
  simp [State.joinerSnap, State.holdsRoster, hst, hloaded]

theorem State.firstBlock_of_named (hown : s.own = some own)
    (hrole : blockRole content own = .joining ∨ blockRole content own = .queued) :
    s.firstBlock 0 content = s.loadRoster content := by
  simp [State.firstBlock, hown, hrole]

theorem State.firstBlock_of_other (hown : s.own = some own) {index : Nat}
    (h : index ≠ 0 ∨ blockRole content own = .absent ∨ blockRole content own = .member) :
    s.firstBlock index content = s := by
  rcases h with h | h | h <;> simp [State.firstBlock, hown, h]

/-! ## The joiner of the transfer (R85, R89, R90) -/

theorem State.joinerSnap_of_joiner (hst : s.station = .joining) (hown : s.own = some own)
    (hrole : s.roster.role own = .joining) (hloaded : 1 ≤ s.snapshot.loaded) (index : Nat) :
    s.joinerSnap sender index content = s.ownTransfer sender index content := by
  simp [State.joinerSnap, State.holdsRoster, hst, hloaded, State.ownRole_of_own hown, hrole]

theorem State.ownTransfer_of_next {index : Nat} (h : index = s.snapshot.loaded) (hle : index ≤ 64) :
    s.ownTransfer sender index content = s.nextBlock sender index content :=
  if_pos ⟨h, hle⟩

theorem State.ownTransfer_of_repeat {index : Nat} (h : index + 1 = s.snapshot.loaded) :
    s.ownTransfer sender index content = s.repeatBlock index content := by
  have hne : index ≠ s.snapshot.loaded := by omega
  simp [State.ownTransfer, h, hne]

theorem State.ownTransfer_of_gap {index : Nat} (h : index ≠ s.snapshot.loaded)
    (h' : index + 1 ≠ s.snapshot.loaded) :
    s.ownTransfer sender index content = s.enterDoubt .snapshotGap := by
  simp [State.ownTransfer, h, h']

theorem State.commitRoster_snap {n : Nat} (h : n < 256) :
    s.commitRoster sender (.snap (natByte n) content) =
      (s.setRoster (s.roster.advance.applySnap n)).setMonitor
        (clearRefused s.monitor s.roster (s.roster.advance.applySnap n)) := by
  simp [State.commitRoster, rosterEffect, natByte_toNat h]

theorem State.completeTransfer_of_not_member (h : s.ownRole ≠ .member) : s.completeTransfer = s :=
  if_neg h

theorem State.completeTransfer_of_member (h : s.ownRole = .member) (hst : s.station = .joining) :
    s.completeTransfer = s.enterSynced .synchronised := by
  simp [State.completeTransfer, h, hst]

/-- R61, R85: the station with a zone block loaded and its commit applied, before R88 is read. -/
def State.withBlock (s : State) (z : ZoneId) (entry : ZoneEntry) (r : Roster) : State :=
  (((s.setZones (put s.zones z entry)).setSnapshot { s.snapshot with loaded := z.val + 2 }).setRoster
    r).setMonitor (clearRefused s.monitor s.roster r)

@[simp] theorem State.withBlock_zones (s : State) (z : ZoneId) (entry : ZoneEntry) (r : Roster) :
    (s.withBlock z entry r).zones = put s.zones z entry := by simp [State.withBlock]
@[simp] theorem State.withBlock_controller (s : State) (z : ZoneId) (entry : ZoneEntry) (r : Roster) :
    (s.withBlock z entry r).controller = s.controller := by simp [State.withBlock]
@[simp] theorem State.withBlock_events (s : State) (z : ZoneId) (entry : ZoneEntry) (r : Roster) :
    (s.withBlock z entry r).events = s.events := by simp [State.withBlock]
@[simp] theorem State.withBlock_roster (s : State) (z : ZoneId) (entry : ZoneEntry) (r : Roster) :
    (s.withBlock z entry r).roster = r := by simp [State.withBlock]
@[simp] theorem State.withBlock_snapshot (s : State) (z : ZoneId) (entry : ZoneEntry) (r : Roster) :
    (s.withBlock z entry r).snapshot = { s.snapshot with loaded := z.val + 2 } := by simp [State.withBlock]

@[simp] theorem State.withBlock_station (s : State) (z : ZoneId) (entry : ZoneEntry) (r : Roster) :
    (s.withBlock z entry r).station = s.station := by simp [State.station]

theorem State.withBlock_ownRole (hown : s.own = some own) (z : ZoneId) (entry : ZoneEntry) (r : Roster) :
    (s.withBlock z entry r).ownRole = r.role own := by
  have hown' : (s.withBlock z entry r).own = some own := by simpa [State.own] using hown
  rw [State.ownRole_of_own hown', State.withBlock_roster]

theorem State.nextBlock_eq (h : zoneBlockValid content = true) (z : ZoneId) :
    s.nextBlock sender (z.val + 1) content =
      (s.withBlock z (blockEntry content) (s.roster.advance.applySnap (z.val + 1))).completeTransfer := by
  have hz : z.val + 1 < 256 := by omega
  unfold State.nextBlock
  rw [State.loadZone_of_valid h]
  exact congrArg State.completeTransfer (State.commitRoster_snap hz)

/-- R85: the next block before the last. -/
theorem State.nextBlock_of_inner (hown : s.own = some own) (hjoiner : s.roster.joiner = some own) {z : ZoneId}
    (hprogress : s.roster.progress = some (z.val + 1)) (hz : z.val < 63) (h : zoneBlockValid content = true) :
    s.nextBlock sender (z.val + 1) content =
      s.withBlock z (blockEntry content)
        { s.roster with progress := some (z.val + 2), counter := s.roster.counter + 1 } := by
  have hinner : z.val + 1 + 1 ≠ Config.blockCount := by
    simp only [Config.blockCount]
    omega
  have hsnap : s.roster.advance.applySnap (z.val + 1) = _ :=
    Roster.applySnap_of_inner (r := s.roster.advance) hjoiner hprogress hinner
  rw [State.nextBlock_eq h, hsnap]
  refine State.completeTransfer_of_not_member ?_
  have hrole : s.roster.role own ≠ .member := by simp [Roster.role_of_joiner hjoiner]
  rw [State.withBlock_ownRole hown]
  exact hrole

/-- R88: the last block. -/
theorem State.nextBlock_of_last (hst : s.station = .joining) (hown : s.own = some own)
    (hjoiner : s.roster.joiner = some own) (hprogress : s.roster.progress = some 64)
    (hqueue : s.roster.joinQueue = []) (h : zoneBlockValid content = true) :
    s.nextBlock sender 64 content =
      (s.withBlock 63 (blockEntry content)
        { s.roster.advance.setRole own .member with progress := none }).enterSynced .synchronised := by
  have hlast : s.roster.advance.applySnap ((63 : ZoneId).val + 1) = _ :=
    (Roster.applySnap_of_last (r := s.roster.advance) hjoiner hprogress rfl).trans
      (Roster.promote_of_empty hqueue)
  have hnext := State.nextBlock_eq (s := s) (sender := sender) h 63
  rw [hlast] at hnext
  refine hnext.trans (State.completeTransfer_of_member ?_ hst)
  rw [State.withBlock_ownRole hown]
  exact Roster.role_setRole_self s.roster.advance own .member

/-! ## The cases of a SNAP -/

section
variable (hst : s.station = .joining) (hown : s.own = some own)
include hst hown

theorem State.joinerSnap_first (hloaded : s.snapshot.loaded = 0)
    (hrole : blockRole content own = .joining ∨ blockRole content own = .queued)
    (h : rosterBlockValid content = true) :
    s.joinerSnap sender 0 content =
      (s.setRoster (blockRoster content).afterBlock).setSnapshot { s.snapshot with loaded := 1 } := by
  rw [State.joinerSnap_of_no_roster hst hloaded, State.firstBlock_of_named hown hrole,
    State.loadRoster_of_valid h]

theorem State.joinerSnap_unnamed (hloaded : s.snapshot.loaded = 0) {index : Nat}
    (h : index ≠ 0 ∨ blockRole content own = .absent ∨ blockRole content own = .member) :
    s.joinerSnap sender index content = s := by
  rw [State.joinerSnap_of_no_roster hst hloaded, State.firstBlock_of_other hown h]

theorem State.joinerSnap_inner (hjoiner : s.roster.joiner = some own) {z : ZoneId}
    (hloaded : s.snapshot.loaded = z.val + 1) (hprogress : s.roster.progress = some (z.val + 1))
    (hz : z.val < 63) (h : zoneBlockValid content = true) :
    s.joinerSnap sender (z.val + 1) content =
      s.withBlock z (blockEntry content)
        { s.roster with progress := some (z.val + 2), counter := s.roster.counter + 1 } := by
  rw [State.joinerSnap_of_joiner hst hown (Roster.role_of_joiner hjoiner) (by omega),
    State.ownTransfer_of_next hloaded.symm (by omega),
    State.nextBlock_of_inner hown hjoiner hprogress hz h]

theorem State.joinerSnap_last (hjoiner : s.roster.joiner = some own) (hloaded : s.snapshot.loaded = 64)
    (hprogress : s.roster.progress = some 64) (hqueue : s.roster.joinQueue = [])
    (h : zoneBlockValid content = true) :
    s.joinerSnap sender 64 content =
      (s.withBlock 63 (blockEntry content)
        { s.roster.advance.setRole own .member with progress := none }).enterSynced .synchronised := by
  rw [State.joinerSnap_of_joiner hst hown (Roster.role_of_joiner hjoiner) (by omega),
    State.ownTransfer_of_next hloaded.symm (by omega),
    State.nextBlock_of_last hst hown hjoiner hprogress hqueue h]

variable (hrole : s.roster.role own = .joining)
include hrole

theorem State.joinerSnap_first_again (hloaded : s.snapshot.loaded = 1) (h : rosterBlockValid content = true) :
    s.joinerSnap sender 0 content =
      (s.setRoster (blockRoster content).afterBlock).setSnapshot { s.snapshot with loaded := 1 } := by
  rw [State.joinerSnap_of_joiner hst hown hrole (by omega), State.ownTransfer_of_repeat hloaded.symm,
    State.repeatBlock, if_pos rfl, State.loadRoster_of_valid h]

theorem State.joinerSnap_again {z : ZoneId} (hloaded : s.snapshot.loaded = z.val + 2)
    (h : zoneBlockValid content = true) :
    s.joinerSnap sender (z.val + 1) content = s.setZones (put s.zones z (blockEntry content)) := by
  rw [State.joinerSnap_of_joiner hst hown hrole (by omega), State.ownTransfer_of_repeat hloaded.symm,
    State.repeatBlock, if_neg (Nat.succ_ne_zero _), State.loadZone_of_valid h]

theorem State.joinerSnap_gap (hloaded : 1 ≤ s.snapshot.loaded) {index : Nat}
    (hnext : index ≠ s.snapshot.loaded) (hagain : index + 1 ≠ s.snapshot.loaded) :
    s.joinerSnap sender index content = s.enterDoubt .snapshotGap := by
  rw [State.joinerSnap_of_joiner hst hown hrole hloaded, State.ownTransfer_of_gap hnext hagain]

end

/-! ## The verdict point -/

/-- A committed SNAP at a JOINING station. -/
theorem exec_snap_of_joining {a b : VerdictCopy} {index : Byte}
    (h : s.readsCommit a b sender .snap (.snap index content)) (hst : s.station = .joining) :
    ∃ v l, exec (.verdictPoint a b) s =
      .next (((((s.setVerdict v).setLine l).joinerSnap sender index.toNat content).stallAfter
        .snap).dropFlight) := by
  have hacq : s.acquiring = true := by simp [State.acquiring, hst]
  obtain ⟨v, l, -, htake⟩ := State.takeVerdict_of_readsCommit h hacq
  refine ⟨v, l, ?_⟩
  have hsnap : ((s.setVerdict v).setLine l).clusterCommit sender (.snap index content) =
      ((s.setVerdict v).setLine l).joinerSnap sender index.toNat content := if_pos hacq
  rw [exec_verdictPoint h.1, htake, hsnap]

/-- R88, R106: a joiner that the last block made a MEMBER. -/
structure State.Synchronises (u t : State) : Prop where
  station   : t.station = .synced
  zones     : t.zones = u.zones
  roster    : t.roster = u.roster
  ownRole   : t.ownRole = u.ownRole
  snapshot  : t.snapshot = Snapshot.cleared
  sendQueue : t.sendQueue = SendQueue.cleared
  events    : t.events = u.events.place (.state .joining .synced .synchronised t.heldZones)

theorem State.enterSynced_synchronises {t u : State} (ht : t = u.enterSynced .synchronised)
    (hu : u.station = .joining) : u.Synchronises (t.stallAfter .snap).dropFlight := by
  rw [State.stallAfter_of_settled ht (.inl rfl)]
  refine ⟨rfl, rfl, rfl, rfl, rfl, rfl, ?_⟩
  rw [← hu]
  rfl

end

end Sys2Proof.Machine
end

section
/-! SUPPORT. A committed message other than a SNAP at an acquiring station (R64, R86), and the statement about a joiner
settled. -/

namespace Sys2Proof.Machine

/-! ## What such a message can do -/

theorem grantFromQueue_expired (g : Byte) (queue : List Waiter) : (grantFromQueue g queue).expired = 0 := by
  unfold grantFromQueue
  split
  · rfl
  · split <;> rfl

theorem expired_ite {c : Prop} [Decidable c] {x y : ZoneChange} (hx : x.expired = 0) (hy : y.expired = 0) :
    (if c then x else y).expired = 0 := by
  split
  · exact hx
  · exact hy

theorem claimZone_expired (e : ZoneEntry) (s : Addr) (m : LeaseMode) (d : Byte) (w : Bool) :
    (claimZone e s m d w).expired = 0 :=
  expired_ite rfl (expired_ite rfl (expired_ite rfl (expired_ite rfl rfl)))

theorem renewZone_expired (e : ZoneEntry) (s : Addr) (d : Byte) : (renewZone e s d).expired = 0 :=
  expired_ite rfl rfl

theorem releaseZone_expired (e : ZoneEntry) (s : Addr) : (releaseZone e s).expired = 0 :=
  expired_ite (expired_ite (grantFromQueue_expired _ _) rfl) rfl

theorem cancelZone_expired (e : ZoneEntry) (s : Addr) : (cancelZone e s).expired = 0 :=
  expired_ite (sharedAdmission_expired _) rfl

theorem removeFromZone_expired (e : ZoneEntry) (t : Addr) : (removeFromZone e t).expired = 0 := by
  rw [removeFromZone_eq]
  exact expired_ite rfl (releaseZone_expired e t)

/-- R22: no committed message makes a lease run out. -/
theorem zoneEffect_expired (r : Roster) (sender : Addr) (b : Body) (z : ZoneId) (e : ZoneEntry) :
    (zoneEffect r sender b z e).expired = 0 := by
  cases b with
  | claim zone mode wait d =>
    unfold zoneEffect
    dsimp only
    split
    · exact expired_ite (claimZone_expired e sender _ d _) rfl
    · rfl
  | renew zone d => exact expired_ite (renewZone_expired e sender d) rfl
  | release zone => exact expired_ite (releaseZone_expired e sender) rfl
  | cancel zone => exact expired_ite (cancelZone_expired e sender) rfl
  | leave reason => exact expired_ite rfl (removeFromZone_expired e sender)
  | evict target reason => exact expired_ite rfl (removeFromZone_expired e target)
  | found | joinReq | snap | note => rfl

namespace Roster

theorem member_of_setRole {r : Roster} {a x : Addr} {role : Role} (hrole : role ≠ .member)
    (h : (r.setRole a role).role x = .member) : r.role x = .member := by
  by_cases hx : x = a
  · subst hx
    exact absurd ((role_setRole_self r x role).symm.trans h) hrole
  · rwa [role_setRole_of_ne r role hx] at h

theorem member_of_promote {r : Roster} {x : Addr} (h : r.promote.role x = .member) : r.role x = .member := by
  cases hq : r.joinQueue with
  | nil => rwa [promote_of_empty hq] at h
  | cons head rest =>
    rw [promote_of_cons hq] at h
    exact member_of_setRole (by decide) h

theorem member_of_dissolve {r : Roster} {x : Addr} (h : r.dissolve.role x = .member) : r.role x = .member := by
  cases hx : r.role x <;> simp_all [dissolve, role]

theorem member_of_remove {r : Roster} {t x : Addr} (h : (r.remove t).role x = .member) :
    r.role x = .member := by
  rcases r.remove_cases t with ⟨-, e⟩ | ⟨-, e⟩ | ⟨-, e⟩ | ⟨-, -, e⟩ | ⟨-, -, e⟩ <;> rw [e] at h
  · exact h
  · exact member_of_setRole (by decide) (member_of_promote h)
  · exact member_of_setRole (role := .absent) (by decide) h
  · exact member_of_setRole (by decide) h
  · exact member_of_setRole (by decide) (member_of_dissolve h)

theorem member_of_applyJoinReq {r : Roster} {s x : Addr} (h : (r.applyJoinReq s).role x = .member) :
    r.role x = .member := by
  rcases r.applyJoinReq_cases s with e | ⟨-, -, e⟩ | ⟨-, -, e⟩ <;> rw [e] at h
  · exact h
  · exact member_of_setRole (role := .joining) (by decide) h
  · exact member_of_setRole (role := .queued) (by decide) h

/-- R61: only a SNAP makes an address MEMBER. -/
theorem member_of_rosterEffect {r : Roster} {sender x : Addr} {b : Body} (hb : b.kind ≠ .snap)
    (h : (Machine.rosterEffect r sender b).role x = .member) : r.role x = .member := by
  cases b with
  | snap => exact absurd rfl hb
  | joinReq => exact member_of_applyJoinReq h
  | leave | evict => exact member_of_remove h
  | found | claim | renew | release | cancel | note => exact h

theorem donor_isSome_iff (r : Roster) : r.donor.isSome = true ↔ ∃ x, r.role x = .member := by
  rw [Option.isSome_iff_ne_none, Ne, donor_eq_none_iff]
  simp

end Roster

/-! ## The application at an acquiring station (R86) -/

section
variable {s : State} {own sender : Addr} {b : Body}

theorem State.acquiring_iff (s : State) :
    s.acquiring = true ↔ s.station = .joining ∨ (s.station = .leaving ∧ s.ownRole ≠ .member) := by
  unfold State.acquiring
  cases s.station <;> simp

theorem State.certain_of_acquiring (h : s.acquiring = true) : s.certain = false := by
  rcases s.acquiring_iff.mp h with hst | ⟨hst, hrole⟩ <;> simp [State.certain, *]

theorem State.holdsRoster_of_acquiring (h : s.acquiring = true) :
    s.holdsRoster = decide (1 ≤ s.snapshot.loaded) := by
  rcases s.acquiring_iff.mp h with hst | ⟨hst, hrole⟩ <;> simp [State.holdsRoster, *]

theorem State.zoneActive_of_acquiring (h : s.acquiring = true) (z : ZoneId) :
    s.zoneActive z = decide (z.val + 2 ≤ s.snapshot.loaded) := by
  simp [State.zoneActive, State.certain_of_acquiring h, h, State.zoneLoaded]

/-- A station goes on acquiring with a commit that does not make it a MEMBER. -/
theorem State.acquiring_of_roster {r : Roster} (h : s.acquiring = true)
    (hr : ∀ x, r.role x = .member → s.roster.role x = .member) : (s.setRoster r).acquiring = true := by
  refine (State.acquiring_iff _).mpr ((s.acquiring_iff.mp h).imp id fun ⟨hst, hrole⟩ => ⟨hst, fun hmember => ?_⟩)
  obtain ⟨a, ha, hm⟩ := (State.ownRole_eq_member_iff _).mp hmember
  exact hrole (s.ownRole_eq_member_iff.mpr ⟨a, ha, hr a hm⟩)

theorem State.senderCommitted_of_no_flight (h : s.selector.inFlight = none) (before : ZoneTable) :
    s.senderCommitted before sender b = s := by
  rw [State.senderCommitted, h]

theorem State.deliver_of_not_certain (h : s.certain = false) : s.deliver sender b = s := by
  cases b <;> simp [State.deliver, h]

/-- An acquiring station with no own waits reports nothing of an application in which no lease runs out. -/
theorem State.reportZones_of_acquiring {changes : Vector ZoneChange 64} (hacq : s.acquiring = true)
    (hwaits : s.sendQueue.ownWaits = []) (hexpired : ∀ z, (changes.get z).expired = 0) (before : ZoneTable) :
    s.reportZones before changes = s := by
  have hexpire (z : ZoneId) : s.expireRecords z (before.get z) (changes.get z) = [] := by
    unfold State.expireRecords
    split <;> simp [hexpired z]
  have hgrant (z : ZoneId) : s.grantRecords z (changes.get z) = [] := by
    unfold State.grantRecords
    split <;> simp [hwaits]
  have hwatch (z : ZoneId) : s.watchRecords z (before.get z) (changes.get z) = [] := by
    simp [State.watchRecords, State.certain_of_acquiring hacq]
  have hrecords : s.zoneRecords before changes = [] := by
    simp [State.zoneRecords, hexpire, hgrant, hwatch]
  have hafter : s.waitsAfter changes = s.sendQueue.ownWaits := by
    unfold State.waitsAfter
    split <;> simp [hwaits]
  rw [State.reportZones, hrecords, hafter]
  rfl

theorem State.commitRoster_acquiring (hacq : s.acquiring = true) (hb : b.kind ≠ .snap) :
    (s.commitRoster sender b).acquiring = true :=
  State.acquiring_of_roster (s := s) hacq fun _ hx =>
    Roster.member_of_rosterEffect (r := s.roster.advance) hb hx

/-- R86: the station after the roster effect, and the zone effect on the loaded zones; nothing is reported. -/
def State.appliedQuietly (s : State) (sender : Addr) (b : Body) : State :=
  (s.commitRoster sender b).setZones (changedEntries (s.zoneChanges (zoneEffect s.roster sender b)))

section
variable (s : State) (sender : Addr) (b : Body)

@[simp] theorem State.appliedQuietly_controller : (s.appliedQuietly sender b).controller = s.controller := by
  simp [State.appliedQuietly, State.commitRoster]
@[simp] theorem State.appliedQuietly_roster :
    (s.appliedQuietly sender b).roster = rosterEffect s.roster.advance sender b := by
  simp [State.appliedQuietly, State.commitRoster]
@[simp] theorem State.appliedQuietly_events : (s.appliedQuietly sender b).events = s.events := by
  simp [State.appliedQuietly, State.commitRoster]
@[simp] theorem State.appliedQuietly_snapshot : (s.appliedQuietly sender b).snapshot = s.snapshot := by
  simp [State.appliedQuietly, State.commitRoster]
@[simp] theorem State.appliedQuietly_line : (s.appliedQuietly sender b).line = s.line := by
  simp [State.appliedQuietly, State.commitRoster]

end

theorem State.appliedQuietly_acquiring (hacq : s.acquiring = true) (hb : b.kind ≠ .snap) :
    (s.appliedQuietly sender b).acquiring = true := by
  have hroster : (s.commitRoster sender b).acquiring = true := State.commitRoster_acquiring hacq hb
  exact hroster

theorem State.applyMessage_of_acquiring (hacq : s.acquiring = true) (hflight : s.selector.inFlight = none)
    (hwaits : s.sendQueue.ownWaits = []) (hb : b.kind ≠ .snap) :
    s.applyMessage sender b = s.appliedQuietly sender b := by
  have hstill : (s.appliedQuietly sender b).acquiring = true := State.appliedQuietly_acquiring hacq hb
  have hwaits' : (s.appliedQuietly sender b).sendQueue.ownWaits = [] := hwaits
  have hflight' : (s.appliedQuietly sender b).selector.inFlight = none := hflight
  have hexpired (z : ZoneId) : ((s.zoneChanges (zoneEffect s.roster sender b)).get z).expired = 0 := by
    simp only [State.zoneChanges, tabulate_get]
    exact expired_ite (zoneEffect_expired _ _ _ _ _) rfl
  show (((s.appliedQuietly sender b).senderCommitted s.zones sender b).reportZones s.zones
    (s.zoneChanges (zoneEffect s.roster sender b))).deliver sender b = _
  rw [State.senderCommitted_of_no_flight hflight', State.reportZones_of_acquiring hstill hwaits' hexpired,
    State.deliver_of_not_certain (State.certain_of_acquiring hstill)]

theorem State.appliedQuietly_zone (hacq : s.acquiring = true) (z : ZoneId) :
    (s.appliedQuietly sender b).zones.get z =
      if z.val + 2 ≤ s.snapshot.loaded then (zoneEffect s.roster sender b z (s.zones.get z)).entry
      else s.zones.get z := by
  simp only [State.appliedQuietly, State.setZones_zones, changedEntries, State.zoneChanges, tabulate_get,
    State.zoneActive_of_acquiring hacq, decide_eq_true_eq]
  split <;> rfl

/-! ## The commit, and the dissolution (R64) -/

theorem State.clusterCommit_of_acquiring (hacq : s.acquiring = true) (hown : s.own = some own)
    (hfound : b.kind ≠ .found) (hsnap : b.kind ≠ .snap) (hleave : ∀ r, b = .leave r → own ≠ sender)
    (hevict : ∀ x r, b = .evict x r → own ≠ x) : s.clusterCommit sender b = s.joinerCommit sender b := by
  cases b with
  | found => exact absurd rfl hfound
  | snap => exact absurd rfl hsnap
  | leave r => simp [State.clusterCommit, State.plainCommit, State.isOwn, hown, hleave r rfl, hacq]
  | evict x r => simp [State.clusterCommit, State.plainCommit, State.isOwn, hown, hevict x r rfl, hacq]
  | joinReq | claim | renew | release | cancel | note => exact if_pos hacq

theorem State.joinerCommit_of_no_roster (hacq : s.acquiring = true) (h : s.snapshot.loaded = 0) :
    s.joinerCommit sender b = s := by
  simp [State.joinerCommit, State.holdsRoster_of_acquiring hacq, h]

theorem State.joinerCommit_of_roster (hacq : s.acquiring = true) (h : 1 ≤ s.snapshot.loaded) :
    s.joinerCommit sender b = (s.applyMessage sender b).leaveDissolved s.roster := by
  simp [State.joinerCommit, State.holdsRoster_of_acquiring hacq, h]

theorem State.leaveDissolved_of_member {before : Roster} (h : ∃ x, s.roster.role x = .member) :
    s.leaveDissolved before = s := by
  have hdonor := (Roster.donor_isSome_iff _).mpr h
  have hnot : before.dissolved s.roster = false := by
    simp [Roster.dissolved, Option.isNone_eq_false_iff.mpr hdonor]
  simp [State.leaveDissolved, hnot]

theorem State.leaveDissolved_of_last {before : Roster} (hbefore : ∃ x, before.role x = .member)
    (hafter : ∀ x, s.roster.role x ≠ .member) :
    (s.station = .joining → s.leaveDissolved before = s.backToSeeking .dissolved)
    ∧ (s.station = .leaving → s.leaveDissolved before = s.arriveStandby .dissolved) := by
  have hdissolved : before.dissolved s.roster = true := by
    simp [Roster.dissolved, (Roster.donor_isSome_iff _).mpr hbefore, (Roster.donor_eq_none_iff _).mpr hafter]
  constructor <;> intro hst <;> simp [State.leaveDissolved, hdissolved, hst]

/-- A station outside the cluster in the local state given, with nothing of the cluster left. -/
structure State.Outside (s : State) (st : StationState) : Prop where
  station   : s.station = st
  zones     : s.zones = ZoneTable.cleared
  roster    : s.roster = Roster.cleared
  snapshot  : s.snapshot = Snapshot.cleared
  selector  : s.selector = Selector.cleared
  sendQueue : s.sendQueue = SendQueue.cleared

theorem State.backToSeeking_outside (s : State) (reason : StateReason) :
    (s.backToSeeking reason).Outside .seeking :=
  ⟨rfl, rfl, rfl, rfl, rfl, rfl⟩

theorem State.arriveStandby_outside (hst : s.station = .leaving) (reason : StateReason) :
    (s.arriveStandby reason).Outside (if s.controller.config.rejoin = true then .seeking else .standby) := by
  have hconfig : (s.depart .standby reason).controller.config = s.controller.config := rfl
  unfold State.arriveStandby State.rejoin
  cases hr : s.controller.config.rejoin <;> simp only [hconfig, hr, hst, StationState.isCluster] <;>
    exact ⟨rfl, rfl, rfl, rfl, rfl, rfl⟩

theorem State.Outside.stallAfter {st : StationState} (h : s.Outside st)
    (hst : st = .seeking ∨ st = .standby) (k : Kind) : s.stallAfter k = s :=
  State.stallAfter_of_settled rfl (.inr (h.station ▸ hst))

theorem State.Outside.dropFlight {st : StationState} (h : s.Outside st) : s.dropFlight.Outside st where
  station := h.station
  zones := h.zones
  roster := h.roster
  snapshot := by simp [State.dropFlight, h.snapshot, Snapshot.cleared]
  selector := by simp [State.dropFlight, h.selector, Selector.cleared]
  sendQueue := by simp [State.dropFlight, h.sendQueue, SendQueue.cleared]

/-- R64, R65: where a joiner and a LEAVING station go when the roster dissolves. -/
theorem State.leaveDissolved_outside {before : Roster} (hbefore : ∃ x, before.role x = .member)
    (hafter : ∀ x, s.roster.role x ≠ .member) (hst : s.station = .joining ∨ s.station = .leaving) :
    (s.leaveDissolved before).Outside
      (if s.station = .joining ∨ s.controller.config.rejoin = true then .seeking else .standby) := by
  obtain ⟨hjoining, hleaving⟩ := State.leaveDissolved_of_last hbefore hafter
  rcases hst with hst | hst
  · rw [hjoining hst, if_pos (.inl hst)]
    exact s.backToSeeking_outside _
  · rw [hleaving hst]
    simpa [hst] using State.arriveStandby_outside hst .dissolved

section
variable (hacq : s.acquiring = true) (hflight : s.selector.inFlight = none)
  (hwaits : s.sendQueue.ownWaits = []) (hb : b.kind ≠ .snap) (hloaded : 1 ≤ s.snapshot.loaded)
include hacq hflight hwaits hb hloaded

theorem State.joinerCommit_of_member
    (h : ∃ x, (rosterEffect s.roster.advance sender b).role x = .member) :
    s.joinerCommit sender b = s.appliedQuietly sender b := by
  rw [State.joinerCommit_of_roster hacq hloaded, State.applyMessage_of_acquiring hacq hflight hwaits hb]
  exact State.leaveDissolved_of_member (s := s.appliedQuietly sender b) h

theorem State.joinerCommit_of_last (hbefore : ∃ x, s.roster.role x = .member)
    (h : ∀ x, (rosterEffect s.roster.advance sender b).role x ≠ .member) :
    (s.joinerCommit sender b).Outside
      (if s.station = .joining ∨ s.controller.config.rejoin = true then .seeking else .standby) := by
  rw [State.joinerCommit_of_roster hacq hloaded, State.applyMessage_of_acquiring hacq hflight hwaits hb]
  exact State.leaveDissolved_outside (s := s.appliedQuietly sender b) hbefore h
    (State.station_of_acquiring (s := s) hacq)

end

end

/-! ## The verdict point -/

/-- A committed message other than a SNAP and a FOUND at an acquiring station that it does not remove. -/
theorem exec_commit_of_acquiring {s : State} {a b : VerdictCopy} {own addr : Addr} {k : Kind} {body : Body}
    (h : s.readsCommit a b addr k body) (hacq : s.acquiring = true) (hown : s.own = some own)
    (hfound : k ≠ .found) (hsnap : k ≠ .snap) (hleave : ∀ r, body = .leave r → own ≠ addr)
    (hevict : ∀ x r, body = .evict x r → own ≠ x) :
    ∃ v l, l.counters.commitsSeen = min (s.line.counters.commitsSeen + 1) 65535
      ∧ exec (.verdictPoint a b) s =
          .next (((((s.setVerdict v).setLine l).joinerCommit addr body).stallAfter k).dropFlight) := by
  have hkind := State.readsCommit_kind h
  obtain ⟨v, l, hseen, htake⟩ := State.takeVerdict_of_readsCommit h hacq
  have hcommit : ((s.setVerdict v).setLine l).clusterCommit addr body = _ :=
    State.clusterCommit_of_acquiring hacq hown (hkind ▸ hfound) (hkind ▸ hsnap) hleave hevict
  exact ⟨v, l, hseen, by rw [exec_verdictPoint h.1, htake, hcommit]⟩

end Sys2Proof.Machine

open Sys2Proof Sys2Proof.Machine

/-- Settles O44: the cases of a SNAP by the joiner's roster and the block's index, and the application of any other
commit on the loaded zones. -/
theorem joinerFollowsTransfer : Obligations.JoinerFollowsTransfer := by
  refine ⟨?next, ?snap, ?other⟩
  case next =>
    intro s sender own z content hst hown hjoiner _ hloaded hprogress hz hvalid
    rw [State.joinerSnap_inner hst hown hjoiner hloaded hprogress hz hvalid]
    refine ⟨by simp, fun y hy => ?_, by simp, by simp, by simp [hst], by simp⟩
    rw [State.withBlock_zones, put_get_of_ne _ _ (Ne.symm hy)]
  case snap =>
    intro a b s own addr index content h hst hown _
    obtain ⟨v, l, hexec⟩ := exec_snap_of_joining h hst
    refine ⟨?first, ?unnamed, ?inner, ?last, ?firstAgain, ?again, ?gap⟩
    case first =>
      intro hloaded hindex hrole hvalid
      have hzero : index.toNat = 0 := congrArg BitVec.toNat hindex
      have hsnap := State.joinerSnap_first (s := (s.setVerdict v).setLine l) (sender := addr) hst hown hloaded
        hrole hvalid
      obtain ⟨ht, hstall⟩ := State.stallAfter_snap hsnap (.inl hst)
      rw [hzero] at hexec
      exact ⟨_, hexec, ht.station.trans hst, ht.zones, ht.events, ht.roster, ht.loaded, hstall⟩
    case unnamed =>
      intro hloaded hother
      have hindex : index.toNat ≠ 0 ∨ blockRole content own = .absent ∨ blockRole content own = .member :=
        hother.imp_left fun hne h0 => hne (BitVec.eq_of_toNat_eq h0)
      have hsnap := State.joinerSnap_unnamed (s := (s.setVerdict v).setLine l) (sender := addr) hst hown hloaded
        hindex
      obtain ⟨ht, hstall⟩ := State.stallAfter_snap hsnap (.inl hst)
      exact ⟨_, hexec, ht.station.trans hst, ht.zones, ht.roster, ht.events, ht.loaded.trans hloaded, hstall⟩
    case inner =>
      intro z hjoiner hindex hloaded hprogress hz hvalid
      have hsnap := State.joinerSnap_inner (s := (s.setVerdict v).setLine l) (sender := addr) hst hown hjoiner
        hloaded hprogress hz hvalid
      have hstill (r : Roster) :
          (((s.setVerdict v).setLine l).withBlock z (blockEntry content) r).station = .joining :=
        (State.withBlock_station _ _ _ _).trans hst
      obtain ⟨ht, hstall⟩ := State.stallAfter_snap hsnap (.inl (hstill _))
      rw [hindex] at hexec
      refine ⟨_, hexec, ht.station.trans (hstill _), ht.events.trans (State.withBlock_events _ _ _ _), ?_,
        fun y hy => ?_, ht.roster.trans (State.withBlock_roster _ _ _ _), ?_, hstall⟩
      · rw [ht.zones, State.withBlock_zones, put_get_self]
      · rw [ht.zones, State.withBlock_zones, put_get_of_ne _ _ (Ne.symm hy)]
        rfl
      · rw [ht.loaded, State.withBlock_snapshot]
    case last =>
      intro hjoiner hindex hloaded hprogress hqueue hvalid
      have hlast : index.toNat = 64 := congrArg BitVec.toNat hindex
      have hsnap := State.joinerSnap_last (s := (s.setVerdict v).setLine l) (sender := addr) hst hown hjoiner
        hloaded hprogress hqueue hvalid
      have hstill (r : Roster) :
          (((s.setVerdict v).setLine l).withBlock 63 (blockEntry content) r).station = .joining :=
        (State.withBlock_station _ _ _ _).trans hst
      have ht := State.enterSynced_synchronises hsnap (hstill _)
      have hrole := State.withBlock_ownRole (s := (s.setVerdict v).setLine l) hown 63 (blockEntry content)
        { s.roster.advance.setRole own .member with progress := none }
      rw [hlast] at hexec
      refine ⟨_, hexec, ht.station, ?_, ?_, ?_, ?_, fun y hy => ?_, ht.snapshot, ht.sendQueue, ?_⟩
      · exact ht.ownRole.trans (hrole.trans (Roster.role_setRole_self s.roster.advance own .member))
      · rw [ht.roster, State.withBlock_roster]
      · rw [ht.roster, State.withBlock_roster]
        rfl
      · rw [ht.zones, State.withBlock_zones, put_get_self]
      · rw [ht.zones, State.withBlock_zones, put_get_of_ne _ _ (Ne.symm hy)]
        rfl
      · rw [ht.events, State.withBlock_events]
        rfl
    case firstAgain =>
      intro hrole hindex hloaded hvalid
      have hzero : index.toNat = 0 := congrArg BitVec.toNat hindex
      have hsnap := State.joinerSnap_first_again (s := (s.setVerdict v).setLine l) (sender := addr) hst hown hrole
        hloaded hvalid
      obtain ⟨ht, -⟩ := State.stallAfter_snap hsnap (.inl hst)
      rw [hzero] at hexec
      exact ⟨_, hexec, ht.station.trans hst, ht.zones, ht.events, ht.roster, ht.loaded⟩
    case again =>
      intro z hrole hindex hloaded hvalid
      have hsnap := State.joinerSnap_again (s := (s.setVerdict v).setLine l) (sender := addr) hst hown hrole
        hloaded hvalid
      obtain ⟨ht, -⟩ := State.stallAfter_snap hsnap (.inl hst)
      rw [hindex] at hexec
      refine ⟨_, hexec, ht.station.trans hst, ht.roster, ht.events, ?_, fun y hy => ?_, ht.loaded⟩
      · rw [ht.zones, State.setZones_zones, put_get_self]
      · rw [ht.zones, State.setZones_zones, put_get_of_ne _ _ (Ne.symm hy)]
        rfl
    case gap =>
      intro hrole hloaded _ hnext hagain
      have hsnap := State.joinerSnap_gap (s := (s.setVerdict v).setLine l) (sender := addr) (content := content)
        hst hown hrole hloaded hnext hagain
      obtain ⟨ht, hstall⟩ := State.stallAfter_snap hsnap (.inr rfl)
      rw [← hst]
      exact ⟨_, hexec, ht.station, ht.zones, ht.roster, ht.loaded, hstall, ht.events⟩
  case other =>
    intro a b s own addr k body after h hacq hown hflight hwaits hdue hfound hsnap hleave hevict hafter
    obtain ⟨v, l, hseen, hexec⟩ := exec_commit_of_acquiring h hacq hown hfound hsnap hleave hevict
    have hbelow := State.stall_lt_of_not_due hacq hdue
    have hbody : body.kind ≠ .snap := State.readsCommit_kind h ▸ hsnap
    subst hafter
    refine ⟨?noRoster, ?applies, ?dissolves⟩
    case noRoster =>
      intro hloaded
      have hcommit := State.joinerCommit_of_no_roster (s := (s.setVerdict v).setLine l) (sender := addr)
        (b := body) hacq hloaded
      obtain ⟨ht, hstall⟩ := State.stallAfter_of_acquiring hcommit hacq hsnap hbelow
      exact ⟨_, hexec, ht.controller, ht.roster, ht.zones, ht.events, ht.loaded.trans hloaded, hstall⟩
    case applies =>
      intro hloaded hmember
      have hcommit := State.joinerCommit_of_member (s := (s.setVerdict v).setLine l) (sender := addr)
        hacq hflight hwaits hbody hloaded hmember
      have hzone := State.appliedQuietly_zone (s := (s.setVerdict v).setLine l) (sender := addr) (b := body) hacq
      have hstill := State.appliedQuietly_acquiring (s := (s.setVerdict v).setLine l) (sender := addr) hacq hbody
      have hcount : (((s.setVerdict v).setLine l).appliedQuietly addr body).snapshot = s.snapshot :=
        State.appliedQuietly_snapshot _ _ _
      obtain ⟨ht, hstall⟩ := State.stallAfter_of_acquiring hcommit hstill hsnap (by rw [hcount]; exact hbelow)
      rw [hcount] at hstall
      refine ⟨_, hexec, ht.controller.trans (State.appliedQuietly_controller _ _ _),
        ht.roster.trans (State.appliedQuietly_roster _ _ _), fun z hz => ?_, fun z hz => ?_,
        ht.events.trans (State.appliedQuietly_events _ _ _),
        ht.loaded.trans (congrArg Snapshot.loaded hcount), hstall, ?_⟩
      · rw [ht.zones]
        exact (hzone z).trans (if_pos hz)
      · rw [ht.zones]
        exact (hzone z).trans (if_neg (Nat.not_le_of_lt hz))
      · rw [ht.line, State.appliedQuietly_line]
        exact hseen
    case dissolves =>
      intro hloaded hbefore hlast
      have hout := State.joinerCommit_of_last (s := (s.setVerdict v).setLine l) (sender := addr)
        hacq hflight hwaits hbody hloaded hbefore hlast
      refine ⟨_, hexec, ?_⟩
      rw [hout.stallAfter (by split <;> simp)]
      obtain ⟨hstation, hzones, hroster, hsnapshot, hselector, hqueue⟩ := hout.dropFlight
      exact ⟨hstation, hzones, hroster, hsnapshot, hselector, hqueue⟩
end

section
/-! SUPPORT. The taking of a command row: where the transaction has come to the command, the block that owns it runs it,
and the port holds its reply (R174, R176). -/

namespace Sys2Proof.Machine

variable {i : Instr} {c : HostCommand} {params : List Byte} {s : State} {p : Port}

/-- A row that names a host command hands its parameter bytes to the block that owns the command, as the bytes sent one
by one do (R174, Table 10-2). -/
theorem exec_command (hwf : i.wellFormed = true) (hi : transactionOf i = some (.known c, params)) (s : State) :
    exec i s = .next (s.unlessReset (s.takeCommand (.known c) params (runCommand c params))) := by
  cases i with
  | hardwareReset | rstRelease | csFall | csRise | unknownCommand | cycleMark | leaseExpiry | earlyMark | lostMark
  | statusPoint | listenCheckPassed | formationWaitExpiry | evictionCandidate | divergence | selectionPoint
  | arbitrationLoss | claimReadbackFault | claimSegment | messageReadbackMismatch | messageSegment
  | ownedBitMismatch | readbackFault | verdictPoint | retryLimitReached | joinStall | holdOffExpiry
  | commandByteComplete | parameterByteComplete | replyByteComplete =>
    cases hi
  | note tag destination length data =>
    cases hi
    have hlength : 3 + data.length = noteParams length := beq_iff_eq.mp hwf
    exact congrArg (fun t => Host.Outcome.next (s.unlessReset t)) (if_pos hlength)
  | _ =>
    -- the host commands of a fixed number of parameter bytes
    cases hi
    rfl

section
variable (hwf : i.wellFormed = true) (hi : transactionOf i = some (.known c, params)) (hrun : s.running)
  (hp : s.readyPort (.known c) params = some p)
include hwf hi hrun hp

theorem exec_command_of_ready :
    exec i s = .next ((runCommand c params s).state.setPort
      (p.answer (.known c) params (runCommand c params s).reply)) := by
  rw [exec_command hwf hi, State.unlessReset_of_running hrun, State.takeCommand_of_ready _ hp]

/-- A command done: its effect, and the reply OK with its data. -/
theorem exec_command_done {t : State} {data : List Byte} (h : runCommand c params s = t.done data) :
    exec i s = .next (t.setPort (p.answer (.known c) params (okReply data))) := by
  rw [exec_command_of_ready hwf hi hrun hp, h]
  rfl

/-- A command refused: nothing but the port changes, and the reply is the code alone. -/
theorem exec_command_refused {code : ReplyCode} (h : runCommand c params s = s.refuse code) :
    exec i s = .next (s.setPort (p.answer (.known c) params (codeReply code))) := by
  rw [exec_command_of_ready hwf hi hrun hp, h]
  rfl

end

end Sys2Proof.Machine
end

section
/-! SUPPORT. CONFIGURE, START, STOP, JOIN and LEAVE by the local state (R96, R99 to R101, R104, R107), and the
statements about them settled. -/

namespace Sys2Proof.Machine

variable {s : State}

/-! ## CONFIGURE (R96, R178) -/

section
variable {a sl fw rl : Byte} (rj : Byte)

theorem configRequest_of_range (h : a.toNat < 16) (hsl : 2 ≤ sl.toNat) (hsl' : sl.toNat ≤ 31)
    (hfw : 8 ≤ fw.toNat) (hrl : 1 ≤ rl.toNat) (hrl' : rl.toNat ≤ 15) :
    configRequest a sl fw rl rj =
      some { address := some ⟨a.toNat, h⟩, silenceLimit := sl.toNat, formationWait := fw.toNat
             retryLimit := rl.toNat, rejoin := rj != 0 } := by
  have hin : ¬ (sl.toNat < 2 ∨ 31 < sl.toNat ∨ fw.toNat < 8 ∨ rl.toNat < 1 ∨ 15 < rl.toNat) := by omega
  simp only [configRequest, addrOf, h, dif_pos, hin, if_false]

theorem configRequest_of_out
    (h : 16 ≤ a.toNat ∨ sl.toNat < 2 ∨ 31 < sl.toNat ∨ fw.toNat < 8 ∨ rl.toNat < 1 ∨ 15 < rl.toNat) :
    configRequest a sl fw rl rj = none := by
  unfold configRequest
  rcases h with haddr | hout
  · simp [addrOf, Nat.not_lt_of_le haddr]
  · simp only [hout, if_true]
    split <;> rfl

end

section
variable {a sl fw rl rj : Byte}

theorem State.configure_of_request {r : ConfigRecord} (hst : s.station = .offline)
    (h : configRequest a sl fw rl rj = some r) :
    s.configure a sl fw rl rj =
      (s.setController { s.controller with configured := true, config := r }).done [] := by
  simp [State.configure, hst, h]

theorem State.configure_of_range_error (hst : s.station = .offline)
    (h : configRequest a sl fw rl rj = none) : s.configure a sl fw rl rj = s.refuse .range := by
  simp [State.configure, hst, h]

theorem State.configure_of_state (hst : s.station ≠ .offline) :
    s.configure a sl fw rl rj = s.refuse .state := if_neg hst

end

/-! ## START and STOP (R99, R100) -/

theorem State.startStation_of_offline (hst : s.station = .offline) (hconf : s.controller.configured = true) :
    s.startStation = s.startListening.done [] := if_pos ⟨hst, hconf⟩

theorem State.startStation_of_state (h : s.station ≠ .offline ∨ s.controller.configured = false) :
    s.startStation = s.refuse .state :=
  if_neg fun ⟨hst, hconf⟩ => h.elim (fun hne => hne hst) fun hno => by simp [hconf] at hno

theorem State.startListening_eq (hst : s.station = .offline) :
    s.startListening =
      ((s.setController { s.controller with station := .standby, listen := 0 }).setLine
        { s.line with slotDrive := none }).setEvents
        (s.events.place (.state .offline .standby .command s.heldZones)) := by
  rw [← hst]
  rfl

theorem State.stopStation_of_stopped (hst : s.station = .standby ∨ s.station = .faulted) :
    s.stopStation = s.goOffline.done [] := if_pos hst

theorem State.stopStation_of_state (hst : s.station ≠ .standby) (hst' : s.station ≠ .faulted) :
    s.stopStation = s.refuse .state := if_neg (not_or.mpr ⟨hst, hst'⟩)

/-! ## JOIN (R101, R102) -/

theorem State.joinStation_of_listened (hst : s.station = .standby) (hlisten : s.controller.listen = 2) :
    s.joinStation = ((s.changeStation .seeking .command s.heldZones).beginSeeking).done [] :=
  if_pos ⟨hst, hlisten⟩

theorem State.joinStation_of_state (h : s.station ≠ .standby ∨ s.controller.listen ≠ 2) :
    s.joinStation = s.refuse .state :=
  if_neg fun ⟨hst, hlisten⟩ => h.elim (fun hne => hne hst) fun hne => hne hlisten

/-! ## LEAVE (R104, R107) -/

theorem State.leaveCluster_of_seeking (hst : s.station = .seeking) (hflight : s.selector.inFlight = none) :
    s.leaveCluster = (s.arriveStandby .command).done [] := by
  simp [State.leaveCluster, hst, hflight]

theorem State.leaveCluster_of_flight (hst : s.station = .seeking) (hflight : s.selector.inFlight ≠ none) :
    s.leaveCluster = s.refuse .inflight := by
  simp [State.leaveCluster, hst, Option.isSome_iff_ne_none.mpr hflight]

theorem State.leaveCluster_of_member (hst : s.station = .synced ∨ s.station = .joining) :
    s.leaveCluster = s.beginLeaving.done [] := by
  rcases hst with hst | hst <;> simp [State.leaveCluster, hst]

theorem State.leaveCluster_of_state (hseeking : s.station ≠ .seeking) (hjoining : s.station ≠ .joining)
    (hsynced : s.station ≠ .synced) : s.leaveCluster = s.refuse .state := by
  unfold State.leaveCluster
  cases hst : s.station with
  | seeking => exact absurd hst hseeking
  | joining => exact absurd hst hjoining
  | synced => exact absurd hst hsynced
  | offline | standby | leaving | doubt | faulted => rfl

/-- R110: only a station that comes from a cluster state goes on into SEEKING. -/
theorem State.arriveStandby_of_outside (hst : s.station.isCluster = false) (reason : StateReason) :
    s.arriveStandby reason = s.depart .standby reason := by
  simp [State.arriveStandby, State.rejoin, hst]

end Sys2Proof.Machine

open Sys2Proof Sys2Proof.Machine

/-- Settles O10: in OFFLINE the ranges of R178 decide between the new record and RANGE; elsewhere STATE. -/
theorem configureCommand : Obligations.ConfigureCommand := by
  intro s p a sl fw rl rj hrun hp
  refine ⟨fun hst h hsl hsl' hfw hrl hrl' => ?_, fun hst hout => ?_, fun hst => ?_⟩
  · have hrecord := configRequest_of_range rj h hsl hsl' hfw hrl hrl'
    exact exec_command_done rfl rfl hrun hp (State.configure_of_request hst hrecord)
  · exact exec_command_refused rfl rfl hrun hp (State.configure_of_range_error hst (configRequest_of_out rj hout))
  · exact exec_command_refused rfl rfl hrun hp (State.configure_of_state hst)

/-- Settles O11: each command by the local states that take it; STOP changes its counts and its record only, so that
the blocks it keeps are read off its definition. -/
theorem startAndStopCommands : Obligations.StartAndStopCommands := by
  refine ⟨fun s p hrun hp => ⟨fun hst hconf => ?start, fun h => ?startState⟩,
    fun s p hrun hp => ⟨fun hst => ?stop, fun hst hst' => ?stopState⟩⟩
  case start =>
    rw [← State.startListening_eq hst]
    exact exec_command_done rfl rfl hrun hp (State.startStation_of_offline hst hconf)
  case startState => exact exec_command_refused rfl rfl hrun hp (State.startStation_of_state h)
  case stop =>
    exact ⟨_, exec_command_done rfl rfl hrun hp (State.stopStation_of_stopped hst), rfl, rfl, rfl, rfl, rfl, rfl, rfl,
      rfl, rfl, rfl, rfl, rfl, rfl, rfl⟩
  case stopState => exact exec_command_refused rfl rfl hrun hp (State.stopStation_of_state hst hst')

/-- Settles O13: the change of local state and the entry to SEEKING, on each block they touch. -/
theorem joinCommand : Obligations.JoinCommand := by
  refine fun s p hrun hp => ⟨fun hst hlisten => ?_, fun h => ?_⟩
  · rw [← hst]
    exact exec_command_done rfl rfl hrun hp (State.joinStation_of_listened hst hlisten)
  · exact exec_command_refused rfl rfl hrun hp (State.joinStation_of_state h)

/-- Settles O14: the departure effects in SEEKING, which is no cluster state and so does not rejoin; the change to
LEAVING in SYNCED and JOINING. That the duties end at the command is assumption 21. -/
theorem leaveCommand : Obligations.LeaveCommand := by
  refine ⟨fun s p hrun hp => ⟨fun hst hflight => ?depart, fun hst hflight => ?inflight,
    fun hseeking hjoining hsynced => ?state⟩, fun s p hrun hp hst => ?leaving⟩
  case depart =>
    have hexec := exec_command_done (i := .leave) rfl rfl hrun hp (State.leaveCluster_of_seeking hst hflight)
    rw [State.arriveStandby_of_outside (by rw [hst]; rfl)] at hexec
    rw [← hst]
    exact ⟨_, hexec, rfl, rfl, rfl, rfl, rfl, rfl, rfl, rfl, rfl, rfl⟩
  case inflight => exact exec_command_refused rfl rfl hrun hp (State.leaveCluster_of_flight hst hflight)
  case state =>
    exact exec_command_refused rfl rfl hrun hp (State.leaveCluster_of_state hseeking hjoining hsynced)
  case leaving =>
    exact ⟨_, exec_command_done rfl rfl hrun hp (State.leaveCluster_of_member hst), rfl, rfl, rfl, rfl, rfl, rfl, rfl,
      rfl, rfl, rfl, rfl, rfl⟩
end

section
/-! SUPPORT. The status point of a STANDBY station in its listening check and of a SEEKING station (R99, R102), and the
statement about them settled. -/

namespace Sys2Proof.Machine

/-! ## Cluster slots (R68) -/

theorem clusterSlots_eq_zero_iff (slots : Slots) :
    clusterSlots slots = 0 ↔ ∀ a : Addr, ¬ showsCluster (slots.get a) := by
  refine (eq_empty_iff _).trans (forall_congr' fun a => ?_)
  rw [Bool.eq_false_iff, Ne, mem_clusterSlots, showsCluster]

variable {s : State} {slots : Slots}

/-! ## The seeking duty (R102) -/

theorem State.seekStep_of_none (h : s.monitor.slotDerived = 0) :
    s.seekStep =
      (s.setController { s.controller with formation := min (s.controller.formation + 1) 255 }).setSelector
        { s.selector with
          sync :=
            if s.controller.config.formationWait ≤ min (s.controller.formation + 1) 255 then some .found
            else none } := if_pos h

theorem State.seekStep_of_cluster (h : s.monitor.slotDerived ≠ 0) :
    s.seekStep =
      (s.setController { s.controller with formation := 0 }).setSelector
        { s.selector with sync := some .joinReq } := if_neg h

/-! ## The point in STANDBY and in SEEKING -/

section
variable (hcan : s.canMake .status = true) (hclean : s.slotClean slots)
include hcan hclean

/-- What the local state finds at the point: the line as the readback left it, and the peer watch up to date. -/
theorem State.takeStatus_clean (ho : s.ownsBits = true) :
    ∃ l, s.readStatus slots = (s.setLine l).setMonitor (s.nextMonitor slots)
      ∧ s.takeStatus slots = ((s.setLine l).setMonitor (s.nextMonitor slots)).actOnStatus slots := by
  obtain ⟨l, hread, -, -⟩ := State.readStatus_clean ho hclean
  exact ⟨l, hread, by rw [State.takeStatus_of_can hcan, hread]⟩

theorem State.takeStatus_of_standby (hst : s.station = .standby) :
    ∃ l, s.readStatus slots = (s.setLine l).setMonitor (s.nextMonitor slots)
      ∧ s.takeStatus slots = ((s.setLine l).setMonitor (s.nextMonitor slots)).listenStep slots := by
  obtain ⟨l, hread, htake⟩ := State.takeStatus_clean hcan hclean (by simp [State.ownsBits, hst])
  have hst' : ((s.setLine l).setMonitor (s.nextMonitor slots)).station = .standby := hst
  exact ⟨l, hread, by rw [htake, State.actOnStatus, hst']⟩

theorem State.takeStatus_of_seeking (hst : s.station = .seeking) :
    ∃ l, s.readStatus slots = (s.setLine l).setMonitor (s.nextMonitor slots)
      ∧ s.takeStatus slots = ((s.setLine l).setMonitor (s.nextMonitor slots)).seekStep := by
  obtain ⟨l, hread, htake⟩ := State.takeStatus_clean hcan hclean (by simp [State.ownsBits, hst])
  have hst' : ((s.setLine l).setMonitor (s.nextMonitor slots)).station = .seeking := hst
  exact ⟨l, hread, by rw [htake, State.actOnStatus, hst']⟩

end

/-! ## The rows of the two limits -/

theorem exec_listenCheckPassed (hrun : s.running) (h : s.passesListening slots = true) :
    exec (.listenCheckPassed slots) s = .next (s.takeStatus slots) :=
  congrArg Host.Outcome.next ((State.unlessReset_of_running hrun).trans (if_pos h))

theorem exec_formationWaitExpiry (hrun : s.running) (h : s.reachesWait slots = true) :
    exec (.formationWaitExpiry slots) s = .next (s.takeStatus slots) :=
  congrArg Host.Outcome.next ((State.unlessReset_of_running hrun).trans (if_pos h))

/-- R99: the second listening cycle whose own slot reads absent passes the check. -/
theorem State.passesListening_of_absent {a : Addr} {l : Line} (hcan : s.canMake .status = true)
    (hread : s.readStatus slots = (s.setLine l).setMonitor (s.nextMonitor slots))
    (hst : s.station = .standby) (hlisten : s.controller.listen = 1) (hown : s.own = some a)
    (habsent : (slots.get a).getLsbD 15 = true) : s.passesListening slots = true := by
  have hst' : ((s.setLine l).setMonitor (s.nextMonitor slots)).station = .standby := hst
  simp [State.passesListening, hread, hcan, hst', hlisten, hown, Config.listenCycles, slotOf,
    slotPresent_of_recessive habsent]

/-- R102: a status point with no cluster slot that counts up to the formation wait reaches it. -/
theorem State.reachesWait_of_none {l : Line} (hcan : s.canMake .status = true)
    (hread : s.readStatus slots = (s.setLine l).setMonitor (s.nextMonitor slots))
    (hst : s.station = .seeking) (hnone : clusterSlots slots = 0)
    (hcount : s.controller.formation + 1 = s.controller.config.formationWait)
    (hmax : s.controller.config.formationWait ≤ 255) : s.reachesWait slots = true := by
  have hbelow : s.controller.formation < s.controller.config.formationWait := hcount ▸ Nat.lt_succ_self _
  have hreach : s.controller.config.formationWait ≤ min (s.controller.formation + 1) 255 :=
    Nat.le_min.mpr ⟨hcount.ge, hmax⟩
  simp only [State.reachesWait, hread, Bool.and_eq_true, beq_iff_eq, decide_eq_true_eq]
  exact ⟨⟨⟨⟨hcan, hst⟩, hnone⟩, hbelow⟩, hreach⟩

/-- R97: from listen count 2 on a STANDBY station drives its slot. -/
theorem State.slotFromMark_of_listened {a : Addr} (hst : s.station = .standby)
    (hlisten : s.controller.listen = 2) (hown : s.own = some a) :
    s.slotFromMark =
      some { address := a, mode := .standby, counter := s.roster.counter.extractLsb' 0 12 } := by
  simp [State.slotFromMark, State.slotMode?, hst, hlisten, hown, Config.listenCycles]

end Sys2Proof.Machine

open Sys2Proof Sys2Proof.Machine

/-- Settles O30: the status point of a STANDBY station is its listening check, and that of a SEEKING station the choice
of its duty by the cluster slots; the rows of the two limits are that point. -/
theorem listeningAndFormationEnd : Obligations.ListeningAndFormationEnd := by
  refine ⟨?listening, ?formation, ?point⟩
  case listening =>
    intro slots s a hrun hcan hst hlisten hslot hown habsent
    have hclean : s.slotClean slots := fun d hd => by simp [hslot] at hd
    obtain ⟨l, hread, htake⟩ := State.takeStatus_of_standby hcan hclean hst
    have hexec := exec_listenCheckPassed hrun
      (State.passesListening_of_absent hcan hread hst hlisten hown habsent)
    have hown' : ((s.setLine l).setMonitor (s.nextMonitor slots)).own = some a := hown
    have hlisten' : ((s.setLine l).setMonitor (s.nextMonitor slots)).controller.listen < 2 :=
      hlisten.trans_lt Nat.one_lt_two
    rw [htake, State.listenStep_of_absent hown' hlisten' habsent] at hexec
    have hcount : s.controller.listen + 1 = 2 := congrArg (· + 1) hlisten
    exact ⟨_, hexec, congrArg (fun n => { s.controller with listen := n }) hcount,
      State.slotFromMark_of_listened hst hcount hown, rfl⟩
  case formation =>
    intro slots s hrun hcan hst hclean hnone hcount hmax
    obtain ⟨l, hread, htake⟩ := State.takeStatus_of_seeking hcan hclean hst
    have hexec := exec_formationWaitExpiry hrun
      (State.reachesWait_of_none hcan hread hst hnone hcount hmax)
    rw [htake, State.seekStep_of_none hnone] at hexec
    have hnext : min (s.controller.formation + 1) 255 = s.controller.config.formationWait := by omega
    exact ⟨_, hexec, by simp [hnext], by simp [hnext]⟩
  case point =>
    intro slots s hrun hcan hst hclean
    obtain ⟨l, -, htake⟩ := State.takeStatus_of_seeking hcan hclean hst
    have hexec := exec_statusPoint hrun slots
    rw [htake] at hexec
    refine ⟨fun ⟨a, ha⟩ => ?_, fun hnone => ?_⟩
    · have hsome : clusterSlots slots ≠ 0 := fun h => (clusterSlots_eq_zero_iff slots).mp h a ha
      rw [State.seekStep_of_cluster hsome] at hexec
      exact ⟨_, hexec, rfl, rfl, rfl, rfl, rfl⟩
    · rw [State.seekStep_of_none ((clusterSlots_eq_zero_iff slots).mpr hnone)] at hexec
      exact ⟨_, hexec, rfl, rfl, rfl, rfl, rfl⟩
end

section
/-! SUPPORT. The choice at the selection point, step by step of its order (R118), the eligible entry of the send queue
(R119), and the statement about them settled. -/

namespace Sys2Proof.Machine

/-! ## The eligible entry (R119) -/

/-- R116: an URGENT request is a RELEASE or a CANCEL, and names a zone. -/
theorem Request.zone_of_urgent {r : Request} (h : r.cls = .urgent) : ∃ z, r.zone? = some z := by
  cases r with
  | release z => exact ⟨z, rfl⟩
  | cancel z => exact ⟨z, rfl⟩
  | claim => cases h
  | renew => cases h
  | note => cases h

theorem any_namesZone_iff (older : List SendEntry) (z : ZoneId) :
    older.any (namesZone z) = true ↔ ∃ x ∈ older, x.request.zone? = some z := by
  simp [namesZone]

theorem eligibleEntry_cons_of_eligible {older rest : List SendEntry} {e : SendEntry} (h : eligibleAfter older e) :
    eligibleEntry older (e :: rest) = some e := by
  obtain ⟨hcls, hzone⟩ := h
  obtain ⟨z, hz⟩ := Request.zone_of_urgent hcls
  have hnone : ¬ older.any (namesZone z) = true := fun hany => by
    obtain ⟨x, hx, hxz⟩ := (any_namesZone_iff older z).mp hany
    exact hzone x hx (hxz.trans hz.symm)
  simp only [eligibleEntry, hcls, hz, hnone, Bool.false_eq_true, if_false]

theorem eligibleEntry_cons_of_not {older rest : List SendEntry} {e : SendEntry} (h : ¬ eligibleAfter older e) :
    eligibleEntry older (e :: rest) = eligibleEntry (older ++ [e]) rest := by
  rw [eligibleEntry]
  split
  · rename_i z hcls hz
    refine if_pos ((any_namesZone_iff older z).mpr ?_)
    by_contra hno
    exact h ⟨hcls, fun x hx hxe => hno ⟨x, hx, hxe.trans hz⟩⟩
  · rfl

/-- The entry found is the first that no entry before it, passed or present, keeps from being eligible. -/
theorem eligibleEntry_eq_some {passed es : List SendEntry} {e : SendEntry} (h : eligibleEntry passed es = some e) :
    ∃ older younger, es = older ++ e :: younger ∧ eligibleAfter (passed ++ older) e
      ∧ ∀ before x after, older = before ++ x :: after → ¬ eligibleAfter (passed ++ before) x := by
  induction es generalizing passed with
  | nil => cases h
  | cons head rest ih =>
    by_cases hhead : eligibleAfter passed head
    · rw [eligibleEntry_cons_of_eligible hhead] at h
      cases h
      exact ⟨[], rest, rfl, by simpa using hhead, fun before x after hnil => by simp at hnil⟩
    · rw [eligibleEntry_cons_of_not hhead] at h
      obtain ⟨older, younger, rfl, he, hfirst⟩ := ih h
      refine ⟨head :: older, younger, rfl, by simpa using he, fun before x after hsplit => ?_⟩
      cases before with
      | nil =>
        cases hsplit
        simpa using hhead
      | cons first before =>
        obtain ⟨rfl, htail⟩ := List.cons.inj hsplit
        simpa using hfirst before x after htail

theorem eligibleEntry_eq_none {passed es : List SendEntry} (h : eligibleEntry passed es = none) :
    ∀ older x younger, es = older ++ x :: younger → ¬ eligibleAfter (passed ++ older) x := by
  induction es generalizing passed with
  | nil => exact fun older x younger hnil => by simp at hnil
  | cons head rest ih =>
    by_cases hhead : eligibleAfter passed head
    · rw [eligibleEntry_cons_of_eligible hhead] at h
      cases h
    · rw [eligibleEntry_cons_of_not hhead] at h
      intro older x younger hsplit
      cases older with
      | nil =>
        cases hsplit
        simpa using hhead
      | cons first older =>
        obtain ⟨rfl, htail⟩ := List.cons.inj hsplit
        simpa using ih h older x younger htail

variable {s : State}

/-! ## What each step offers (R118) -/

theorem State.urgentEntry_of_synced (hst : s.station = .synced) :
    s.urgentEntry = eligibleEntry [] s.sendQueue.entries := if_pos hst

theorem State.urgentEntry_of_not_synced (hst : s.station ≠ .synced) : s.urgentEntry = none := if_neg hst

theorem State.syncHold_of_seeking (hst : s.station = .seeking) : s.syncHold = s.selector.seekHold := if_pos hst

theorem State.syncHold_of_not_seeking (hst : s.station ≠ .seeking) : s.syncHold = s.selector.snapHold := if_neg hst

theorem State.syncOffer_of_run_out (h : s.syncHold = 0) : s.syncOffer = s.selector.sync := if_pos h

theorem State.syncOffer_of_held (h : s.syncHold ≠ 0) : s.syncOffer = none := if_neg h

theorem State.syncOffer_of_no_duty (h : s.selector.sync = none) : s.syncOffer = none := by
  rw [State.syncOffer, h, ite_self]

theorem State.normalEntry_of_oldest (hst : s.station = .synced) (hserved : s.selector.served = false)
    {e : SendEntry} {rest : List SendEntry} (hqueue : s.sendQueue.entries = e :: rest)
    (hcls : e.request.cls = .normal) : s.normalEntry = some e := by
  simp only [State.normalEntry, hqueue, hst, hcls, hserved, and_self, if_true]

theorem State.normalEntry_of_not_synced (hst : s.station ≠ .synced) : s.normalEntry = none := by
  unfold State.normalEntry
  split
  · exact if_neg fun ⟨hsynced, _⟩ => hst hsynced
  · rfl

/-- R118 step 4, R120: the served flag keeps the NORMAL entry back, and so does an oldest entry of another class. -/
theorem State.normalEntry_of_kept_back
    (h : s.selector.served = true ∨ ∀ e ∈ s.sendQueue.entries.head?, e.request.cls ≠ .normal) :
    s.normalEntry = none := by
  unfold State.normalEntry
  split
  · rename_i e rest hqueue
    refine if_neg fun ⟨_, hcls, hclear⟩ => ?_
    rcases h with hserved | hother
    · simp [hserved] at hclear
    · exact hother e (by simp [hqueue]) hcls
  · rfl

/-! ## The choice (R118) -/

theorem State.choice_of_not_chooses (h : s.station.chooses = false) : s.choice = none := by
  simp [State.choice, h]

section
variable (hchooses : s.station.chooses = true)
include hchooses

theorem State.choice_of_urgent {d : UrgentDuty} (hurgent : s.selector.urgent = some d) :
    s.choice = some (.urgent d) := by
  simp only [State.choice, hchooses, hurgent, if_true]

theorem State.choice_of_urgentEntry (hurgent : s.selector.urgent = none) {e : SendEntry}
    (hentry : s.urgentEntry = some e) : s.choice = some (.entry e.tag) := by
  simp only [State.choice, hchooses, hurgent, hentry, if_true]

theorem State.choice_of_sync (hurgent : s.selector.urgent = none) (hentry : s.urgentEntry = none) {d : SyncDuty}
    (hsync : s.syncOffer = some d) : s.choice = some (.sync d) := by
  simp only [State.choice, hchooses, hurgent, hentry, hsync, if_true]

theorem State.choice_of_normal (hurgent : s.selector.urgent = none) (hentry : s.urgentEntry = none)
    (hsync : s.syncOffer = none) {e : SendEntry} (hnormal : s.normalEntry = some e) :
    s.choice = some (.entry e.tag) := by
  simp only [State.choice, hchooses, hurgent, hentry, hsync, hnormal, if_true]

theorem State.choice_of_nothing (hurgent : s.selector.urgent = none) (hentry : s.urgentEntry = none)
    (hsync : s.syncOffer = none) (hnormal : s.normalEntry = none) : s.choice = none := by
  simp only [State.choice, hchooses, hurgent, hentry, hsync, hnormal, if_true]

end

/-- In SYNCED the SYNC duty is offered once the hold-off of the donor has run out. -/
theorem State.syncOffer_of_synced (hst : s.station = .synced) (h : s.selector.snapHold = 0) :
    s.syncOffer = s.selector.sync :=
  State.syncOffer_of_run_out ((State.syncHold_of_not_seeking (by simp [hst])).trans h)

theorem State.syncOffer_of_synced_none (hst : s.station = .synced)
    (h : s.selector.sync = none ∨ s.selector.snapHold ≠ 0) : s.syncOffer = none :=
  h.elim State.syncOffer_of_no_duty fun hheld =>
    State.syncOffer_of_held ((State.syncHold_of_not_seeking (by simp [hst])).trans_ne hheld)

theorem State.syncOffer_of_seeking (hst : s.station = .seeking) (h : s.selector.seekHold = 0) :
    s.syncOffer = s.selector.sync :=
  State.syncOffer_of_run_out ((State.syncHold_of_seeking hst).trans h)

theorem State.syncOffer_of_seeking_held (hst : s.station = .seeking) (h : s.selector.seekHold ≠ 0) :
    s.syncOffer = none :=
  State.syncOffer_of_held ((State.syncHold_of_seeking hst).trans_ne h)

theorem StationState.chooses_of_synced {st : StationState} (h : st = .synced) : st.chooses = true := h ▸ rfl

end Sys2Proof.Machine

open Sys2Proof Sys2Proof.Machine

/-- Settles O33: the four steps in SYNCED, each with what the steps before it offer; elsewhere steps 2 and 4 offer
nothing. -/
theorem choiceFollowsOrder : Obligations.ChoiceFollowsOrder := by
  refine ⟨fun s hst => ?synced, fun es e h => eligibleEntry_eq_some h, fun es h => eligibleEntry_eq_none h,
    fun s hst => ?duties, fun s hst hurgent => ?seeking, fun s hst => ?silent⟩
  case synced =>
    have hchooses := StationState.chooses_of_synced hst
    have hentry := State.urgentEntry_of_synced hst
    refine ⟨fun d hurgent => State.choice_of_urgent hchooses hurgent,
      fun e hurgent heligible => State.choice_of_urgentEntry hchooses hurgent (hentry.trans heligible),
      fun d hurgent hnone hhold hsync => ?_, fun e rest hurgent hnone hsync hserved hqueue hcls => ?_,
      fun hurgent hnone hsync hkept => ?_⟩
    · exact State.choice_of_sync hchooses hurgent (hentry.trans hnone)
        ((State.syncOffer_of_synced hst hhold).trans hsync)
    · exact State.choice_of_normal hchooses hurgent (hentry.trans hnone) (State.syncOffer_of_synced_none hst hsync)
        (State.normalEntry_of_oldest hst hserved hqueue hcls)
    · exact State.choice_of_nothing hchooses hurgent (hentry.trans hnone) (State.syncOffer_of_synced_none hst hsync)
        (State.normalEntry_of_kept_back hkept)
  case duties =>
    have hchooses : s.station.chooses = true := by rcases hst with hst | hst | hst <;> rw [hst] <;> rfl
    have hnot : s.station ≠ .synced := by rcases hst with hst | hst | hst <;> simp [hst]
    exact ⟨fun d hurgent => State.choice_of_urgent hchooses hurgent, fun hurgent hsync =>
      State.choice_of_nothing hchooses hurgent (State.urgentEntry_of_not_synced hnot)
        (State.syncOffer_of_no_duty hsync) (State.normalEntry_of_not_synced hnot)⟩
  case seeking =>
    have hchooses : s.station.chooses = true := hst ▸ rfl
    have hnot : s.station ≠ .synced := by simp [hst]
    have hentry := State.urgentEntry_of_not_synced hnot
    refine ⟨fun d hsync hhold => ?_, fun hheld => ?_⟩
    · exact State.choice_of_sync hchooses hurgent hentry ((State.syncOffer_of_seeking hst hhold).trans hsync)
    · exact State.choice_of_nothing hchooses hurgent hentry (State.syncOffer_of_seeking_held hst hheld)
        (State.normalEntry_of_not_synced hnot)
  case silent =>
    refine State.choice_of_not_chooses ?_
    rcases hst with hst | hst | hst | hst <;> rw [hst] <;> rfl
end

section
/-! SUPPORT. The selection point: the duties formed, what the point keeps, the message a choice puts in flight (R117,
R118, R121), and the statement about it settled. -/

namespace Sys2Proof.Machine

variable {s : State}

theorem exec_selectionPoint (hrun : s.running) : exec .selectionPoint s = .next s.takeSelection :=
  congrArg Host.Outcome.next (State.unlessReset_of_running hrun)

/-! ## The duties formed (R77, R117) -/

/-- The state in which the point chooses: the point made, with the two duties given. -/
def State.withDuties (s : State) (urgent : Option UrgentDuty) (sync : Option SyncDuty) : State :=
  (s.makePoint .selection 260).setSelector { s.selector with urgent := urgent, sync := sync }

section
variable (hcan : s.canMake .selection = true)
include hcan

theorem State.takeSelection_of_can : s.takeSelection = (s.makePoint .selection 260).formDuties.offerChoice :=
  if_pos hcan

theorem State.takeSelection_of_synced (hst : s.station = .synced) :
    s.takeSelection = (s.withDuties s.selector.urgent s.snapDuty).offerChoice := by
  have hst' : (s.makePoint .selection 260).station = .synced := hst
  rw [State.takeSelection_of_can hcan, State.formDuties, hst']
  rfl

theorem State.takeSelection_of_leaving (hst : s.station = .leaving) :
    s.takeSelection = (s.withDuties (some (.leave .voluntary)) none).offerChoice := by
  have hst' : (s.makePoint .selection 260).station = .leaving := hst
  rw [State.takeSelection_of_can hcan, State.formDuties, hst']
  rfl

theorem State.takeSelection_of_doubt (hst : s.station = .doubt) :
    s.takeSelection = (s.withDuties (some (.leave .doubt)) none).offerChoice := by
  have hst' : (s.makePoint .selection 260).station = .doubt := hst
  rw [State.takeSelection_of_can hcan, State.formDuties, hst']
  rfl

/-- Elsewhere the point forms no duty. -/
theorem State.takeSelection_of_formed (hsynced : s.station ≠ .synced) (hleaving : s.station ≠ .leaving)
    (hdoubt : s.station ≠ .doubt) :
    s.takeSelection = (s.withDuties s.selector.urgent s.selector.sync).offerChoice := by
  rw [State.takeSelection_of_can hcan, State.formDuties]
  have hst : (s.makePoint .selection 260).station = s.station := rfl
  rw [hst]
  cases h : s.station with
  | synced => exact absurd h hsynced
  | leaving => exact absurd h hleaving
  | doubt => exact absurd h hdoubt
  | offline | standby | seeking | joining | faulted => rfl

theorem State.takeSelection_eq : ∃ urgent sync, s.takeSelection = (s.withDuties urgent sync).offerChoice := by
  by_cases hsynced : s.station = .synced
  · exact ⟨_, _, State.takeSelection_of_synced hcan hsynced⟩
  by_cases hleaving : s.station = .leaving
  · exact ⟨_, _, State.takeSelection_of_leaving hcan hleaving⟩
  by_cases hdoubt : s.station = .doubt
  · exact ⟨_, _, State.takeSelection_of_doubt hcan hdoubt⟩
  exact ⟨_, _, State.takeSelection_of_formed hcan hsynced hleaving hdoubt⟩

end

/-- R77: a SYNCED donor with a joiner has the SNAP duty of its progress. -/
theorem State.snapDuty_of_donor {own j : Addr} {p : Nat} (hown : s.own = some own)
    (hdonor : s.roster.donor = some own) (hjoiner : s.roster.joiner = some j) (hprogress : s.roster.progress = some p)
    (hhold : s.selector.snapHold = 0) : s.snapDuty = some (.snap p) := by
  simp [State.snapDuty, State.isOwn, hdonor, hjoiner, hprogress, hown, hhold]

theorem State.snapDuty_of_not_donor
    (h : s.own ≠ s.roster.donor ∨ s.roster.joiner = none ∨ s.selector.snapHold ≠ 0) : s.snapDuty = none := by
  unfold State.snapDuty
  split
  · rename_i d j p hdonor hjoiner hprogress
    refine if_neg fun hsnap => ?_
    obtain ⟨hisOwn, hrunOut⟩ := Bool.and_eq_true_iff.mp hsnap
    rcases h with hother | hno | hheld
    · exact hother ((beq_iff_eq.mp hisOwn).trans hdonor.symm)
    · cases hjoiner.symm.trans hno
    · exact hheld (beq_iff_eq.mp hrunOut)
  · rfl

/-! ## The offer (R118, R121) -/

theorem State.offerChoice_of_choice {source : Source} {own : Addr} (hchoice : s.choice = some source)
    (hown : s.own = some own) : s.offerChoice = s.offer own source := by
  simp only [State.offerChoice, hchoice, hown]

/-- R118 step 1: the URGENT duty comes first. -/
theorem State.offerChoice_of_urgent {own : Addr} (hchooses : s.station.chooses = true) (hown : s.own = some own)
    (d : UrgentDuty) (sync : Option SyncDuty) :
    (s.withDuties (some d) sync).offerChoice = (s.withDuties (some d) sync).offer own (.urgent d) :=
  State.offerChoice_of_choice (State.choice_of_urgent (s := s.withDuties _ _) hchooses rfl) hown

theorem State.offerChoice_of_nothing (hchoice : s.choice = none) : s.offerChoice = s := by
  simp only [State.offerChoice, hchoice]

theorem State.offerChoice_cases (s : State) :
    s.offerChoice = s ∨ ∃ own source, s.offerChoice = s.offer own source := by
  unfold State.offerChoice
  split
  · exact .inr ⟨_, _, rfl⟩
  · exact .inl rfl

/-- What every selection point keeps. -/
structure State.SelectionFrame (s t : State) : Prop where
  zones      : t.zones = s.zones
  roster     : t.roster = s.roster
  controller : t.controller = s.controller
  events     : t.events = s.events
  monitor    : t.monitor = s.monitor
  verdict    : t.verdict = s.verdict
  counters   : t.line.counters = s.line.counters
  served     : t.selector.served = s.selector.served
  tags       : t.sendQueue.entries.map SendEntry.tag = s.sendQueue.entries.map SendEntry.tag

theorem State.takeSelection_frame (hcan : s.canMake .selection = true) : s.SelectionFrame s.takeSelection := by
  obtain ⟨urgent, sync, htake⟩ := State.takeSelection_eq hcan
  rw [htake]
  rcases (s.withDuties urgent sync).offerChoice_cases with hnone | ⟨own, source, hoffer⟩
  · rw [hnone]
    exact ⟨rfl, rfl, rfl, rfl, rfl, rfl, rfl, rfl, rfl⟩
  · rw [hoffer]
    exact ⟨rfl, rfl, rfl, rfl, rfl, rfl, rfl, rfl, Source.launch_tags source s.sendQueue⟩

/-- A local state that chooses nothing forms no duty either. -/
theorem State.takeSelection_of_not_chooses (hcan : s.canMake .selection = true)
    (h : s.station.chooses = false) : s.takeSelection = s.withDuties s.selector.urgent s.selector.sync := by
  have hne : ∀ st : StationState, st.chooses = true → s.station ≠ st := fun st hst hs => by
    rw [hs, hst] at h
    cases h
  rw [State.takeSelection_of_formed hcan (hne _ rfl) (hne _ rfl) (hne _ rfl)]
  exact State.offerChoice_of_nothing (State.choice_of_not_chooses h)

/-! ## The message formed (R78, R121) -/

section
variable {tag : Byte} {e : SendEntry} (hfind : s.sendQueue.find tag = some e)
include hfind

theorem State.formFlight_of_entry (own : Addr) :
    s.formFlight own (.entry tag) =
      { source := .entry tag, kind := e.request.kind, cls := e.request.kind.cls
        message := formMessage e.request.kind own s.basis e.request.payload
        claim := .contending, mismatchFrom := none } := by
  simp only [State.formFlight, State.sourceKind, State.sourcePayload, hfind]

/-- R126: the entry chosen is IN_FLIGHT. -/
theorem State.offer_find (own : Addr) :
    (s.offer own (.entry tag)).sendQueue.find tag = some { e with state := .inFlight } :=
  SendQueue.find_change (fun _ => rfl) hfind

end

/-- R78: block 0 is that of the roster, and block z + 1 that of zone z. -/
theorem State.formBlock_of_index {p : Nat} {content : List Byte} (hroster : p = 0 → content = rosterBlock s.roster)
    (hzone : ∀ z : ZoneId, p = z.val + 1 → content = zoneBlock (s.zones.get z)) (hp : p ≤ 64) :
    s.formBlock p = { index := p, content := content } := by
  unfold State.formBlock
  split
  · rename_i h
    rw [hzone ⟨p - 1, by omega⟩ (show p = p - 1 + 1 by omega)]
  · rw [hroster (by omega)]

/-- R78, R121: the SNAP message carries the index of its block and the block. -/
theorem State.formFlight_of_snap {p : Nat} {content : List Byte} {own : Addr}
    (hblock : s.formBlock p = { index := p, content := content }) :
    s.formFlight own (.sync (.snap p)) =
      { source := .sync (.snap p), kind := .snap, cls := .sync
        message := formMessage .snap own s.basis (natByte p :: content)
        claim := .contending, mismatchFrom := none } := by
  simp only [State.formFlight, State.sourcePayload, hblock]
  rfl

/-! ## The choices of a SYNCED station -/

section
variable (hcan : s.canMake .selection = true) (hst : s.station = .synced) (hurgent : s.selector.urgent = none)
include hcan hst hurgent

theorem State.takeSelection_of_urgentEntry {own : Addr} {e : SendEntry} (hown : s.own = some own)
    (heligible : eligibleEntry [] s.sendQueue.entries = some e) :
    s.takeSelection = (s.withDuties s.selector.urgent s.snapDuty).offer own (.entry e.tag) := by
  rw [State.takeSelection_of_synced hcan hst]
  refine State.offerChoice_of_choice ?_ hown
  exact State.choice_of_urgentEntry (s := s.withDuties _ s.snapDuty) (StationState.chooses_of_synced hst) hurgent
    ((State.urgentEntry_of_synced hst).trans heligible)

variable (hnone : eligibleEntry [] s.sendQueue.entries = none)
include hnone

theorem State.takeSelection_of_snap {own : Addr} {p : Nat} (hown : s.own = some own)
    (hduty : s.snapDuty = some (.snap p)) (hhold : s.selector.snapHold = 0) :
    s.takeSelection = (s.withDuties s.selector.urgent (some (.snap p))).offer own (.sync (.snap p)) := by
  rw [State.takeSelection_of_synced hcan hst, hduty]
  refine State.offerChoice_of_choice ?_ hown
  exact State.choice_of_sync (s := s.withDuties _ (some (.snap p))) (StationState.chooses_of_synced hst) hurgent
    ((State.urgentEntry_of_synced hst).trans hnone) (State.syncOffer_of_synced hst hhold)

variable (hduty : s.snapDuty = none)
include hduty

theorem State.takeSelection_of_normal {own : Addr} {e : SendEntry} {rest : List SendEntry} (hown : s.own = some own)
    (hserved : s.selector.served = false) (hqueue : s.sendQueue.entries = e :: rest)
    (hcls : e.request.cls = .normal) :
    s.takeSelection = (s.withDuties s.selector.urgent none).offer own (.entry e.tag) := by
  rw [State.takeSelection_of_synced hcan hst, hduty]
  refine State.offerChoice_of_choice ?_ hown
  exact State.choice_of_normal (s := s.withDuties _ none) (StationState.chooses_of_synced hst) hurgent
    ((State.urgentEntry_of_synced hst).trans hnone) (State.syncOffer_of_no_duty rfl)
    (State.normalEntry_of_oldest hst hserved hqueue hcls)

theorem State.takeSelection_of_nothing (hkept : s.selector.served = true ∨ s.sendQueue.entries = []) :
    s.takeSelection = s.withDuties s.selector.urgent none := by
  rw [State.takeSelection_of_synced hcan hst, hduty]
  refine State.offerChoice_of_nothing ?_
  refine State.choice_of_nothing (s := s.withDuties _ none) (StationState.chooses_of_synced hst) hurgent
    ((State.urgentEntry_of_synced hst).trans hnone) (State.syncOffer_of_no_duty rfl)
    (State.normalEntry_of_kept_back (hkept.imp_right fun hempty e he => ?_))
  have hmem : e ∈ s.sendQueue.entries.head? := he
  simp [hempty] at hmem

end

/-- The SYNC duty of a SEEKING station, its hold-off run out. -/
theorem State.takeSelection_of_seeking {own : Addr} {d : SyncDuty} (hcan : s.canMake .selection = true)
    (hown : s.own = some own) (hst : s.station = .seeking) (hurgent : s.selector.urgent = none)
    (hhold : s.selector.seekHold = 0) (hsync : s.selector.sync = some d) :
    s.takeSelection = (s.withDuties s.selector.urgent s.selector.sync).offer own (.sync d) := by
  rw [State.takeSelection_of_formed hcan (by simp [hst]) (by simp [hst]) (by simp [hst])]
  refine State.offerChoice_of_choice ?_ hown
  have hchooses : s.station.chooses = true := hst ▸ rfl
  have hnot : s.station ≠ .synced := by simp [hst]
  exact State.choice_of_sync (s := s.withDuties _ _) hchooses hurgent (State.urgentEntry_of_not_synced hnot)
    ((State.syncOffer_of_seeking hst hhold).trans hsync)

end Sys2Proof.Machine

open Sys2Proof Sys2Proof.Machine

/-- Settles O32: the frame of every point, and for each choice the message formed of it. -/
theorem selectionPointOffers : Obligations.SelectionPointOffers := by
  intro s hrun hcan
  obtain ⟨hzones, hroster, hcontroller, hevents, hmonitor, hverdict, hcounters, hserved, htags⟩ :=
    State.takeSelection_frame hcan
  refine ⟨_, exec_selectionPoint hrun, hzones, hroster, hcontroller, hevents, hmonitor, hverdict, hcounters, hserved,
    htags, fun hsilent => ?silent, fun own hown hst => ?leaving, fun own hown hst => ?doubt,
    fun own hown hst hurgent hhold => ⟨fun hsync => ?found, fun hsync => ?joinReq⟩,
    fun own target reason hown hst hurgent => ?evict, fun own e hown hst hurgent heligible hfind => ?urgentEntry,
    fun own j p content hown hst hurgent hnone hdonor hjoiner hprogress hhold hcontent hzone hp => ?snap,
    fun own e rest hown hst hurgent hnone hother hclear hqueue hcls => ?normal,
    fun hst hurgent hnone hother hkept => ?nothing⟩
  case silent =>
    rw [State.takeSelection_of_not_chooses hcan hsilent]
    exact ⟨rfl, rfl⟩
  case leaving =>
    have hchooses : s.station.chooses = true := hst ▸ rfl
    rw [State.takeSelection_of_leaving hcan hst, State.offerChoice_of_urgent hchooses hown]
    exact ⟨rfl, rfl⟩
  case doubt =>
    have hchooses : s.station.chooses = true := hst ▸ rfl
    rw [State.takeSelection_of_doubt hcan hst, State.offerChoice_of_urgent hchooses hown]
    exact ⟨rfl, rfl⟩
  case found =>
    rw [State.takeSelection_of_seeking hcan hown hst hurgent hhold hsync]
    exact ⟨rfl, rfl⟩
  case joinReq =>
    rw [State.takeSelection_of_seeking hcan hown hst hurgent hhold hsync]
    exact ⟨rfl, rfl⟩
  case evict =>
    rw [State.takeSelection_of_synced hcan hst, hurgent,
      State.offerChoice_of_urgent (StationState.chooses_of_synced hst) hown]
    cases reason with
    | silent => exact ⟨rfl, rfl⟩
    | mismatch => exact ⟨rfl, rfl⟩
  case urgentEntry =>
    rw [State.takeSelection_of_urgentEntry hcan hst hurgent hown heligible]
    exact ⟨congrArg some (State.formFlight_of_entry hfind own), State.offer_find hfind own⟩
  case snap =>
    have hduty := State.snapDuty_of_donor hown hdonor hjoiner hprogress hhold
    have hblock : (s.withDuties s.selector.urgent (some (.snap p))).formBlock p = { index := p, content := content } :=
      State.formBlock_of_index hcontent hzone hp
    rw [State.takeSelection_of_snap hcan hst hurgent hnone hown hduty hhold]
    refine ⟨rfl, congrArg some hblock, ?_, rfl⟩
    rw [State.offer, State.formFlight_of_snap hblock]
    rfl
  case normal =>
    have hfind : s.sendQueue.find e.tag = some e := by simp [SendQueue.find, hqueue]
    have hduty := State.snapDuty_of_not_donor (hother.imp_left fun hne hown' => hne (hown'.symm.trans hown))
    rw [State.takeSelection_of_normal hcan hst hurgent hnone hduty hown hclear hqueue hcls]
    refine ⟨?_, State.offer_find hfind own, rfl⟩
    rw [← hcls]
    exact congrArg some (State.formFlight_of_entry hfind own)
  case nothing =>
    rw [State.takeSelection_of_nothing hcan hst hurgent hnone (State.snapDuty_of_not_donor hother) hkept]
    exact ⟨rfl, rfl, rfl⟩
end

section
/-! SUPPORT. The claim segment and the readback of the message: a claim given up (R123, R124), the segment as read
(R122), a mismatch of the message sent (R125), and the statements about them settled. -/

namespace Sys2Proof.Machine

variable {s : State} {m : InFlight}

/-! ## A claim given up (R123, R124) -/

/-- A duty stands: only the message in flight becomes none. -/
theorem State.giveUpClaim_of_duty (hflight : s.selector.inFlight = some m) (hduty : ∀ tag, m.source ≠ .entry tag) :
    s.giveUpClaim = s.setSelector { s.selector with inFlight := none } := by
  unfold State.giveUpClaim
  rw [hflight]
  cases hsource : m.source with
  | entry tag => exact absurd hsource (hduty tag)
  | urgent d => simp only [hsource]
  | sync d => simp only [hsource]

section
variable {tag : Byte} (hflight : s.selector.inFlight = some m) (hsource : m.source = .entry tag)
include hflight hsource

theorem State.giveUpClaim_of_entry :
    s.giveUpClaim = (s.setSelector { s.selector with inFlight := none }).returnEntry tag := by
  simp only [State.giveUpClaim, hflight, hsource]

/-- Outside LEAVING the entry is WAITING again. -/
theorem State.giveUpClaim_of_waiting (hst : s.station ≠ .leaving) :
    s.giveUpClaim =
      (s.setSelector { s.selector with inFlight := none }).setSendQueue
        (s.sendQueue.change tag fun e => { e with state := .waiting }) := by
  rw [State.giveUpClaim_of_entry hflight hsource]
  exact if_neg hst

/-- In LEAVING the entry ends WITHDRAWN. -/
theorem State.giveUpClaim_of_leaving (hst : s.station = .leaving) {e : SendEntry}
    (hfind : s.sendQueue.find tag = some e) :
    s.giveUpClaim =
      ((s.setSelector { s.selector with inFlight := none }).setSendQueue (s.sendQueue.drop tag)).place
        e.withdrawn := by
  rw [State.giveUpClaim_of_entry hflight hsource]
  refine (if_pos hst).trans ?_
  simp only [State.endEntry, State.setSelector_sendQueue, hfind]
  rfl

end

/-- The message out of the cycle, outside LEAVING or with a duty as its source: no message in flight, the source
standing, the line as given. -/
structure State.GivesUp (s t : State) (m : InFlight) (l : Line) : Prop where
  selector   : t.selector = { s.selector with inFlight := none }
  line       : t.line = l
  duty       : (∀ tag, m.source ≠ .entry tag) → t.sendQueue = s.sendQueue
  entry      : ∀ tag e, m.source = .entry tag → s.sendQueue.find tag = some e →
                 t.sendQueue.find tag = some { e with state := .waiting }
  zones      : t.zones = s.zones
  roster     : t.roster = s.roster
  controller : t.controller = s.controller
  events     : t.events = s.events
  verdict    : t.verdict = s.verdict
  monitor    : t.monitor = s.monitor

theorem State.giveUpClaim_givesUp (hflight : s.selector.inFlight = some m)
    (hleaving : s.station = .leaving → ∀ tag, m.source ≠ .entry tag) (l : Line) :
    s.GivesUp (s.setLine l).giveUpClaim m l := by
  have hflight' : (s.setLine l).selector.inFlight = some m := hflight
  by_cases hduty : ∀ tag, m.source ≠ .entry tag
  · rw [State.giveUpClaim_of_duty hflight' hduty]
    exact ⟨rfl, rfl, fun _ => rfl, fun tag e hsource => absurd hsource (hduty tag), rfl, rfl, rfl, rfl, rfl, rfl⟩
  · obtain ⟨tag, hsource⟩ := not_forall_not.mp hduty
    have hst : (s.setLine l).station ≠ .leaving := fun hst => hduty (hleaving hst)
    rw [State.giveUpClaim_of_waiting hflight' hsource hst]
    refine ⟨rfl, rfl, fun h => absurd hsource (h tag), fun tag' e hsource' hfind => ?_, rfl, rfl, rfl, rfl, rfl,
      rfl⟩
    cases hsource.symm.trans hsource'
    exact SendQueue.find_change (fun _ => rfl) hfind

/-! ## The two bit rows -/

section
variable {own : Addr} {bit : Fin 7} (hrun : s.running) (hm : s.contending = some m) (hown : s.own = some own)
include hrun hm hown

theorem exec_arbitrationLoss (hbit : claimBitAt m.cls own bit = some true) :
    ∃ l, exec (.arbitrationLoss bit) s = .next (s.setLine l).giveUpClaim
      ∧ l.counters =
          { s.line.counters with arbitrationLosses := min (s.line.counters.arbitrationLosses + 1) 65535 } := by
  have hlose : s.loseAt bit = (s.misreadBit (claimLineBit bit)).loseClaim := by
    simp only [State.loseAt, hm, hown, hbit, if_true]
  exact ⟨(s.misreadBit (claimLineBit bit)).countArbitrationLoss.line,
    congrArg Host.Outcome.next ((State.unlessReset_of_running hrun).trans hlose), rfl⟩

theorem exec_claimReadbackFault (hbit : claimBitAt m.cls own bit = some false) :
    ∃ l, exec (.claimReadbackFault bit) s = .next (s.setLine l).giveUpClaim
      ∧ l.counters =
          { s.line.counters with readbackMismatches := min (s.line.counters.readbackMismatches + 1) 65535 }
      ∧ l.runCount = s.line.runCount := by
  have hfault : s.faultAt bit = (s.misreadBit (claimLineBit bit)).faultClaim := by
    simp only [State.faultAt, hm, hown, hbit, if_true]
  exact ⟨(s.misreadBit (claimLineBit bit)).countMismatch.line,
    congrArg Host.Outcome.next ((State.unlessReset_of_running hrun).trans hfault), rfl, rfl⟩

end

/-! ## The claim segment as read (R122) -/

theorem exec_claimSegment (hrun : s.running) (read : ClaimRead) :
    exec (.claimSegment read) s = .next (s.takeClaim read) :=
  congrArg Host.Outcome.next (State.unlessReset_of_running hrun)

/-- A contender that reads the bits it drives has won. -/
theorem State.judgeClaim_of_own {own : Addr} {read : ClaimRead} (hm : s.contending = some m) (hown : s.own = some own)
    (hread : readClaim read = drivenClaim m.cls own) : s.judgeClaim read = s.winClaim m := by
  simp only [State.judgeClaim, hm, hown, hread, contend_self]

theorem State.judgeClaim_of_no_contender (hm : s.contending = none) (read : ClaimRead) :
    s.judgeClaim read = s := by
  simp only [State.judgeClaim, hm]

theorem readClaim_of_own {read : ClaimRead} {cls : MessageClass} {own : Addr} (hstart : read.start = .dominant)
    (hcls : read.cls = cls.code) (haddr : read.addr = own) : readClaim read = drivenClaim cls own := by
  rw [readClaim, hstart, hcls, haddr]
  rfl

theorem State.takeClaim_of_dominant {read : ClaimRead} (hcan : s.canMake .claim = true)
    (hstart : read.start = .dominant) :
    s.takeClaim read = ((s.makePoint .claim 266).holdClaim read).judgeClaim read := by
  simp [State.takeClaim, hcan, hstart]

/-- At a station that does not contend the segment is held, and an idle one settles the run count. -/
theorem State.takeClaim_of_no_contender (hcan : s.canMake .claim = true) (hm : s.contending = none)
    (read : ClaimRead) :
    ∃ run wait, s.takeClaim read =
      ((s.makePoint .claim 266).holdClaim read).setLine
        { ((s.makePoint .claim 266).holdClaim read).line with runCount := run, cleanPending := wait } := by
  have hnone : ((s.makePoint .claim 266).holdClaim read).contending = none := hm
  simp only [State.takeClaim, hcan, if_true, State.judgeClaim_of_no_contender hnone]
  split
  · exact State.settleRun_shape _
  · exact ⟨_, _, rfl⟩

/-! ## A mismatch of the message sent (R125) -/

theorem exec_messageReadbackMismatch (hrun : s.running) (hm : s.cleanSender = some m)
    (hcan : s.canMake .message = true) (bit : Fin 160) :
    ∃ l, exec (.messageReadbackMismatch bit) s =
        .next ((s.setLine l).setSelector { s.selector with inFlight := some { m with mismatchFrom := some bit } })
      ∧ l.counters =
          { s.line.counters with readbackMismatches := min (s.line.counters.readbackMismatches + 1) 65535 }
      ∧ l.runCount = s.line.runCount := by
  have hmismatch : s.mismatchAt bit = (s.misreadBit (messageLineBit bit)).mismatchMessage m bit := by
    simp only [State.mismatchAt, hm, hcan, if_true]
  exact ⟨(s.misreadBit (messageLineBit bit)).countMismatch.line,
    congrArg Host.Outcome.next ((State.unlessReset_of_running hrun).trans hmismatch), rfl, rfl⟩

theorem InFlight.messageBit_of_mismatched {bit : Fin 160} (h : m.mismatchFrom = some bit) {i : Nat}
    (hi : bit.val ≤ i) : m.messageBit i = true := by
  simp only [InFlight.messageBit, h, Nat.not_lt_of_le hi, if_false, ite_self]

end Sys2Proof.Machine

open Sys2Proof Sys2Proof.Machine

/-- Settles O34: both bit rows give the claim up and count their own finding; what giving up does depends on the source
and, for an entry, on LEAVING. -/
theorem claimLossAndFault : Obligations.ClaimLossAndFault := by
  refine ⟨fun bit s m own hrun hm hown hleaving => ?stands,
    fun bit s m own tag e hrun hm hown hst hsource hfind => ?withdrawn⟩
  case stands =>
    obtain ⟨hflight, -⟩ := State.contending_some hm
    refine ⟨fun hbit => ?_, fun hbit => ?_⟩
    · obtain ⟨l, hexec, hcounters⟩ := exec_arbitrationLoss hrun hm hown hbit
      have h := State.giveUpClaim_givesUp hflight hleaving l
      exact ⟨_, hexec, h.selector, h.line.symm ▸ hcounters, h.duty, h.entry, h.zones, h.roster, h.controller, h.events,
        h.verdict, h.monitor⟩
    · obtain ⟨l, hexec, hcounters, hcount⟩ := exec_claimReadbackFault hrun hm hown hbit
      have h := State.giveUpClaim_givesUp hflight hleaving l
      exact ⟨_, hexec, h.selector, h.line.symm ▸ hcounters, h.line.symm ▸ hcount, h.duty, h.entry, h.zones,
        h.roster, h.controller, h.events, h.verdict, h.monitor⟩
  case withdrawn =>
    obtain ⟨hflight, -⟩ := State.contending_some hm
    refine ⟨fun hbit => ?_, fun hbit => ?_⟩
    · obtain ⟨l, hexec, hcounters⟩ := exec_arbitrationLoss hrun hm hown hbit
      rw [State.giveUpClaim_of_leaving (s := s.setLine l) hflight hsource hst hfind] at hexec
      exact ⟨_, hexec, rfl, rfl, rfl, hcounters, rfl, rfl, rfl, rfl, rfl⟩
    · obtain ⟨l, hexec, hcounters, hcount⟩ := exec_claimReadbackFault hrun hm hown hbit
      rw [State.giveUpClaim_of_leaving (s := s.setLine l) hflight hsource hst hfind] at hexec
      exact ⟨_, hexec, rfl, rfl, rfl, hcounters, hcount, rfl, rfl, rfl, rfl, rfl⟩

/-- Settles O35: a contender that reads its own bits wins; a station that does not contend holds the segment. -/
theorem claimSegmentDecides : Obligations.ClaimSegmentDecides := by
  refine fun read s hrun hcan => ⟨fun m own hm hown hstart hcls haddr => ?winner, fun hm => ?listener⟩
  case winner =>
    have hm' : ((s.makePoint .claim 266).holdClaim read).contending = some m := hm
    have hown' : ((s.makePoint .claim 266).holdClaim read).own = some own := hown
    have hexec := exec_claimSegment hrun read
    rw [State.takeClaim_of_dominant hcan hstart,
      State.judgeClaim_of_own hm' hown' (readClaim_of_own hstart hcls haddr)] at hexec
    refine ⟨_, hexec, rfl, ?verdict, ?active, rfl, rfl, rfl, rfl, rfl⟩
    case verdict => simp [State.winClaim, State.holdClaim, State.makePoint, hstart]
    case active => simp [State.winClaim, State.holdClaim, hstart]
  case listener =>
    obtain ⟨run, wait, htake⟩ := State.takeClaim_of_no_contender hcan hm read
    have hexec := exec_claimSegment hrun read
    rw [htake] at hexec
    exact ⟨_, hexec, rfl, rfl, rfl, rfl, rfl, rfl, rfl, rfl⟩

/-- Settles O36: the row marks the message in flight from its bit, and from there on that message sends recessive. -/
theorem messageMismatchSendsRecessive : Obligations.MessageMismatchSendsRecessive := by
  intro bit s m hrun hm hcan
  obtain ⟨l, hexec, hcounters, hcount⟩ := exec_messageReadbackMismatch hrun hm hcan bit
  exact ⟨_, hexec, rfl, hcounters, hcount, fun i hi => InFlight.messageBit_of_mismatched rfl hi, rfl, rfl, rfl, rfl,
    rfl⟩
end

section
/-! SUPPORT. The verdict point of an idle cycle at a station whose stall count does not reach its limit (R91, R120),
and the statement about it settled. -/

namespace Sys2Proof.Machine

variable {s : State}

theorem State.runHoldOffs_shape (s : State) : ∃ x : Selector, s.runHoldOffs = s.setSelector x := by
  unfold State.runHoldOffs
  split <;> exact ⟨_, rfl⟩

/-- R120, R129: after an idle claim segment the hold-offs and the served flag are all that changes before the count. -/
theorem State.clearServed_of_hold_offs (hidle : s.verdict.claim = some .idle) :
    ∃ x : Selector, x.served = false ∧ s.runHoldOffs.clearServed = s.setSelector x := by
  obtain ⟨x, hhold⟩ := s.runHoldOffs_shape
  exact ⟨{ x with served := false }, rfl, by rw [hhold]; exact State.clearServed_of_idle hidle⟩

/-- R91: away from the limit a station that acquires a replica counts the cycle, and another does nothing. -/
theorem State.stallStep_of_not_due (h : s.stallDue = false) :
    s.stallStep =
      s.setSnapshot
        { s.snapshot with stall := if s.acquiring then s.snapshot.stall + 1 else s.snapshot.stall } := by
  cases hacq : s.acquiring with
  | false => exact State.stallStep_of_not_acquiring hacq
  | true =>
    have hlt := State.stall_lt_of_not_due hacq h
    have hcount : saturate Config.stallLimit s.snapshot.stall = s.snapshot.stall + 1 := Nat.min_eq_left hlt.le
    simp [State.stallStep, h, hacq, State.countStall, hcount]

end Sys2Proof.Machine

open Sys2Proof Sys2Proof.Machine

/-- Settles O41: up to the stall count the point of an idle cycle changes the Verdict Unit, the line, the hold-offs and
the served flag alone; the cycle is then counted for the stall count. -/
theorem idleVerdictPoint : Obligations.IdleVerdictPoint := by
  intro a b s hrun hcan hidle hstance hdue
  obtain ⟨u, hsame, -, -, htake⟩ := State.takeVerdict_of_idle hcan hidle hstance a b
  obtain ⟨v, l, hclaim, hline⟩ := hsame
  have hidle' : ((s.setVerdict v).setLine l).verdict.claim = some .idle := hclaim.trans hidle
  obtain ⟨x, hserved, hclear⟩ := State.clearServed_of_hold_offs hidle'
  have hdue' : (((s.setVerdict v).setLine l).setSelector x).stallDue = false := hdue
  have hexec := exec_verdictPoint hrun a b
  rw [htake, hclear, State.stallStep_of_not_due hdue'] at hexec
  exact ⟨_, hexec, hserved, rfl, rfl, rfl, rfl, rfl, rfl, hline.commitsSeen, fun hacq => if_pos hacq⟩
end

section
/-! SUPPORT. An owned bit read otherwise than driven (R144, R145) and what a station in FAULTED drives (R115), and the
statement about OWNED_BIT_MISMATCH and READBACK_FAULT settled. -/

namespace Sys2Proof.Machine

variable {s : State} {bit : Fin 512}

theorem exec_ownedBitMismatch (hrun : s.running) (hown : s.ownsBit bit = true) :
    exec (.ownedBitMismatch bit) s = .next (s.misreadBit bit).ownedMismatch :=
  congrArg Host.Outcome.next ((State.unlessReset_of_running hrun).trans (if_pos hown))

/-- The row READBACK_FAULT at a bit that reaches the limit is the mismatch of that bit (assumption 1). -/
theorem exec_readbackFault (h : s.faultsAt bit = true) :
    exec (.readbackFault bit) s = exec (.ownedBitMismatch bit) s :=
  congrArg (fun t => Host.Outcome.next (s.unlessReset t)) (if_pos h)

theorem State.faultsAt_of_limit (hown : s.ownsBit bit = true) (hseen : s.line.mismatchSeen = false)
    (hlimit : Config.readbackLimit ≤ s.line.runCount + 1) : s.faultsAt bit = true := by
  simp [State.faultsAt, hown, hseen, hlimit]

/-- R115: fault entry ends the slot being driven, the message in flight and the stance. -/
theorem State.enterFaulted_released (s : State) (reason : StateReason) (b : Fin 512) :
    (s.enterFaulted reason).pldDominant b = false := by
  refine Bool.eq_false_iff.mpr fun hdom => ?_
  obtain ⟨own, hbit⟩ := State.lineBit_of_dominant hdom
  have hrec : (s.enterFaulted reason).lineBit own b = true :=
    State.lineBit_recessive own rfl rfl fun _ hslot => nomatch hslot
  exact Bool.noConfusion (hbit.symm.trans hrec)

end Sys2Proof.Machine

open Sys2Proof Sys2Proof.Machine

/-- Settles O40: the first mismatch of a cycle changes the line alone below the limit, and is fault entry at it. -/
theorem ownedBitMismatches : Obligations.OwnedBitMismatches := by
  refine fun bit s hrun hown hseen => ⟨fun hcount => ?below, fun hcount => ?limit⟩
  case below =>
    have hbelow : s.line.runCount + 1 < Config.readbackLimit := Nat.succ_lt_succ hcount
    have hmismatch : (s.misreadBit bit).ownedMismatch = s.setLine (s.misreadBit bit).line.afterMismatch :=
      State.ownedMismatch_of_below hseen hbelow
    have hexec := (exec_ownedBitMismatch hrun hown).trans (congrArg _ hmismatch)
    exact ⟨_, hexec, Nat.min_eq_left hbelow.le, rfl, rfl, rfl, rfl, rfl, rfl, rfl, rfl, rfl⟩
  case limit =>
    have hlimit : Config.readbackLimit ≤ s.line.runCount + 1 := hcount ▸ Nat.le_refl 3
    have hmismatch : (s.misreadBit bit).ownedMismatch =
        (s.setLine (s.misreadBit bit).line.afterMismatch).enterFaulted .readbackFault :=
      State.ownedMismatch_of_limit hseen hlimit
    have hexec := (exec_readbackFault (State.faultsAt_of_limit hown hseen hlimit)).trans
      (exec_ownedBitMismatch hrun hown)
    exact ⟨_, hexec.trans (congrArg _ hmismatch), rfl, rfl, rfl, rfl, rfl, rfl, rfl, rfl, rfl,
      State.enterFaulted_released _ _⟩
end

section
/-! SUPPORT. The cycle mark, timely, lost and early (R136, R141, R142): what each does before and after the expiry pass,
and the statements about CYCLE_MARK, LOST_MARK and EARLY_MARK settled. -/

namespace Sys2Proof.Machine

variable {s : State}

/-! ## A timely mark (R136) -/

theorem exec_cycleMark (hrun : s.running) (hjudged : s.claimUnjudged = false) :
    exec .cycleMark s = .next s.beginCycle :=
  congrArg Host.Outcome.next ((State.unlessReset_of_running hrun).trans (State.takeMark_timely hjudged))

theorem State.beginCycle_controller (s : State) : s.beginCycle.controller = s.controller := rfl

theorem State.beginCycle_roster (s : State) : s.beginCycle.roster = s.roster := rfl

theorem State.beginCycle_runCount (s : State) :
    s.beginCycle.line.runCount =
      if s.line.cleanPending = true ∧ s.verdict.stance = .notTaken then 0 else s.line.runCount := by
  show s.runAtEnd = _
  simp [State.runAtEnd]

/-! ## A lost mark (R142) -/

theorem exec_lostMark (hrun : s.running) : exec .lostMark s = .next s.loseMark :=
  congrArg Host.Outcome.next (State.unlessReset_of_running hrun)

theorem State.loseMark_of_waiting (h : s.line.position = .waiting) : s.loseMark = s := if_pos h

/-- R141, R142, R146: the line counters with a mark fault counted. -/
def LineCounters.markFaulted (c : LineCounters) : LineCounters :=
  { c with markFaults := min (c.markFaults + 1) 65535 }

/-- R142, R145: the line after a lost mark: the fault counted, WAITING, and the run count of the cycle that is over. -/
def State.lostLine (s : State) : Line :=
  { s.line with
    position := .waiting, slotDrive := none, runCount := s.runAtEnd, cleanPending := false, heard := []
    counters := s.line.counters.markFaulted }

section
variable (hpos : s.line.position ≠ .waiting)
include hpos

theorem State.loseMark_of_doubt (hclaim : s.line.claimActive = true) (hdoubt : s.canDoubt = true) :
    s.loseMark = (s.enterDoubt .markFault).setLine s.lostLine := by
  have hboth : (s.countMarkFault.line.claimActive && s.countMarkFault.canDoubt) = true :=
    Bool.and_eq_true_iff.mpr ⟨hclaim, hdoubt⟩
  rw [State.loseMark, if_neg hpos]
  simp only [hboth, if_true]
  rfl

theorem State.loseMark_of_no_doubt (h : s.line.claimActive = false ∨ s.canDoubt = false) :
    s.loseMark = s.dropFlight.setLine s.lostLine := by
  have hnot : (s.countMarkFault.line.claimActive && s.countMarkFault.canDoubt) = false :=
    Bool.and_eq_false_iff.mpr h
  rw [State.loseMark, if_neg hpos]
  simp only [hnot, Bool.false_eq_true, if_false]
  rfl

end

/-- R142: in WAITING no bit is driven. -/
theorem State.released_of_waiting (h : s.line.position = .waiting) (b : Fin 512) : s.pldDominant b = false := by
  unfold State.pldDominant
  split
  · simp [h]
  · rfl

/-! ## The hold-offs and the stall count at a cut (R91, R129) -/

/-- At a cut the hold-offs alone change. -/
theorem State.cutHoldOffs_shape (s : State) :
    ∃ seek snap, s.cutHoldOffs = s.setSelector { s.selector with seekHold := seek, snapHold := snap } := by
  unfold State.cutHoldOffs
  split
  · exact ⟨_, _, rfl⟩
  · unfold State.runHoldOffs
    split <;> exact ⟨_, _, rfl⟩

/-- R91: a cut away from the limit changes the stall count alone. -/
theorem State.cutStall_shape (h : s.stallDue = false) :
    ∃ n, s.cutStall = s.setSnapshot { s.snapshot with stall := n } := by
  unfold State.cutStall
  split
  · exact ⟨_, rfl⟩
  · exact ⟨_, State.stallStep_of_not_due h⟩

/-- R91: the stall count that a cut with a doubt leaves: one cycle more at an acquiring station before its verdict
point. -/
def State.stallAtCut (s : State) : Nat :=
  if s.acquiring = true ∧ s.line.point ≠ .verdict then min (s.snapshot.stall + 1) 128 else s.snapshot.stall

theorem State.doubtAtCut_eq (s : State) :
    s.doubtAtCut = (s.setSnapshot { s.snapshot with stall := s.stallAtCut }).enterDoubt .markFault := by
  have hiff : (s.acquiring && s.line.point != .verdict) = true ↔
      s.acquiring = true ∧ s.line.point ≠ .verdict := by simp
  unfold State.doubtAtCut State.stallAtCut
  by_cases h : s.acquiring = true ∧ s.line.point ≠ .verdict
  · rw [if_pos h, if_pos (hiff.mpr h)]
    rfl
  · rw [if_neg h, if_neg (mt hiff.mp h)]
    rfl

/-! ## An early mark (R141) -/

section
variable {bit : Fin 512} {claimStart : Level}

theorem exec_earlyMark (hrun : s.running) (hearly : s.markIsEarly = true) :
    exec (.earlyMark bit claimStart) s = .next (s.cutCycle bit claimStart).beginCycle :=
  congrArg Host.Outcome.next ((State.unlessReset_of_running hrun).trans (if_pos hearly))

theorem State.cutClaimActive_of_no_claim (hclaim : s.line.claimActive = false)
    (hstart : s.line.point.rank < CyclePoint.claim.rank → 260 < bit.val → claimStart = .recessive) :
    s.cutClaimActive bit claimStart = false := by
  simp only [State.cutClaimActive, hclaim, Bool.false_or, Bool.and_eq_false_iff, decide_eq_false_iff_not,
    beq_eq_false_iff_ne]
  by_cases hrank : s.line.point.rank < CyclePoint.claim.rank
  · by_cases hbit : 260 < bit.val
    · exact .inr (by simp [hstart hrank hbit])
    · exact .inl (.inr hbit)
  · exact .inl (.inl hrank)

/-- The line at a cut: the mark fault counted, and the claim-active flag of the cycle as it is cut. -/
structure Line.CutAt (l l' : Line) (active : Bool) : Prop where
  point       : l'.point = l.point
  claimActive : l'.claimActive = active
  counters    : l'.counters = l.counters.markFaulted

theorem State.reachCut_shape (s : State) (bit : Fin 512) (claimStart : Level) :
    ∃ l, s.line.CutAt l (s.cutClaimActive bit claimStart) ∧ s.reachCut bit claimStart = s.setLine l :=
  ⟨(s.reachCut bit claimStart).line, ⟨rfl, rfl, rfl⟩, rfl⟩

/-- Before the doubt or the end of the cycle a cut changes the line and the hold-offs alone. -/
theorem State.reachCut_cutHoldOffs (s : State) (bit : Fin 512) (claimStart : Level) :
    ∃ l seek snap, s.line.CutAt l (s.cutClaimActive bit claimStart)
      ∧ (s.reachCut bit claimStart).cutHoldOffs =
          (s.setLine l).setSelector { s.selector with seekHold := seek, snapHold := snap } := by
  obtain ⟨l, hline, hreach⟩ := s.reachCut_shape bit claimStart
  obtain ⟨seek, snap, hhold⟩ := (s.setLine l).cutHoldOffs_shape
  exact ⟨l, seek, snap, hline, hreach ▸ hhold⟩

/-- The cut of a cycle without a claim drops the message in flight; beside the line it changes the hold-offs and the
stall count. -/
theorem State.cutCycle_of_no_claim (hclaim : s.cutClaimActive bit claimStart = false) (hdue : s.stallDue = false) :
    ∃ l seek snap n, s.line.CutAt l false
      ∧ s.cutCycle bit claimStart =
          ((s.setLine l).setSelector
              { s.selector with seekHold := seek, snapHold := snap }).dropFlight.setSnapshot
            { s.snapshot with sending := none, stall := n } := by
  obtain ⟨l, seek, snap, hline, hhold⟩ := s.reachCut_cutHoldOffs bit claimStart
  rw [hclaim] at hline
  have hnot (u : State) : ¬ (l.claimActive && u.canDoubt) = true := by simp [hline.claimActive]
  obtain ⟨n, hstall⟩ := State.cutStall_shape
    (s := ((s.setLine l).setSelector { s.selector with seekHold := seek, snapHold := snap }).dropFlight) hdue
  refine ⟨l, seek, snap, n, hline, ?_⟩
  rw [State.cutCycle, hhold]
  exact (if_neg (hnot _)).trans hstall

/-- The cut of a cycle with a claim takes a station that can doubt into DOUBT. -/
theorem State.cutCycle_of_claim (hclaim : s.line.claimActive = true) (hdoubt : s.canDoubt = true) :
    ∃ l seek snap, s.line.CutAt l true
      ∧ s.cutCycle bit claimStart =
          (((s.setLine l).setSelector { s.selector with seekHold := seek, snapHold := snap }).setSnapshot
            { s.snapshot with stall := s.stallAtCut }).enterDoubt .markFault := by
  obtain ⟨l, seek, snap, hline, hhold⟩ := s.reachCut_cutHoldOffs bit claimStart
  have hactive : s.cutClaimActive bit claimStart = true := by simp [State.cutClaimActive, hclaim]
  rw [hactive] at hline
  refine ⟨l, seek, snap, hline, ?_⟩
  rw [State.cutCycle, hhold, State.stallAtCut, ← hline.point]
  exact (if_pos (Bool.and_eq_true_iff.mpr ⟨hline.claimActive, hdoubt⟩)).trans (State.doubtAtCut_eq _)

end

/-! ## The expiry pass in DOUBT (R4, R20, R22, R26) -/

/-- A station that reports no leases and whose replica is not certain reports nothing of an application. -/
theorem State.reportZones_of_silent (hleases : s.reportsLeases = false) (hcertain : s.certain = false)
    (before : ZoneTable) (changes : Vector ZoneChange 64) : s.reportZones before changes = s := by
  have hexpire (z : ZoneId) (e : ZoneEntry) (c : ZoneChange) : s.expireRecords z e c = [] := by
    unfold State.expireRecords
    split <;> simp [hleases]
  have hgrant (z : ZoneId) (c : ZoneChange) : s.grantRecords z c = [] := by
    unfold State.grantRecords
    split <;> simp [hleases]
  have hwatch (z : ZoneId) (e : ZoneEntry) (c : ZoneChange) : s.watchRecords z e c = [] := by
    simp [State.watchRecords, hcertain]
  have hrecords : s.zoneRecords before changes = [] := by
    simp [State.zoneRecords, hexpire, hgrant, hwatch]
  have hwaits : s.waitsAfter changes = s.sendQueue.ownWaits := by
    unfold State.waitsAfter
    split <;> simp [hleases]
  rw [State.reportZones, hrecords, hwaits]
  rfl

/-- R113: in DOUBT the zone table stands frozen, and the expiry pass does nothing. -/
theorem State.expiryPass_of_doubt (h : s.station = .doubt) : s.expiryPass = s := by
  have hcertain : s.certain = false := by simp [State.certain, h]
  have hleases : s.reportsLeases = false := by simp [State.reportsLeases, h]
  have hactive (z : ZoneId) : s.zoneActive z = false := by simp [State.zoneActive, State.acquiring, hcertain, h]
  have hzones := changedEntries_of_inactive (fun _ e => expireZone e) hactive
  show (s.setZones (changedEntries (s.zoneChanges fun _ e => expireZone e))).reportZones _ _ = s
  rw [hzones]
  exact State.reportZones_of_silent (s := s) hleases hcertain _ _

theorem State.beginCycle_of_doubt (h : s.station = .doubt) : s.beginCycle = s.openCycle.driveSlot :=
  congrArg State.driveSlot (State.expiryPass_of_doubt (s := s.openCycle) h)

end Sys2Proof.Machine

open Sys2Proof Sys2Proof.Machine

/-- Settles O24: the mark opens the cycle, and of the zone table it changes what the expiry pass reaches. -/
theorem cycleMarkOpensCycle : Obligations.CycleMarkOpensCycle := fun s hrun hjudged =>
  ⟨_, exec_cycleMark hrun hjudged, rfl, rfl, rfl, rfl, rfl, rfl, rfl, s.beginCycle_zones, rfl, rfl, rfl, rfl, rfl, rfl,
    rfl, rfl, s.beginCycle_runCount, rfl⟩

/-- Settles O28: the loss is DOUBT where a claim was made and the state can doubt, and else drops the message in flight;
either way the line is WAITING, where nothing is driven. -/
theorem lostMarkWaits : Obligations.LostMarkWaits := by
  refine fun s hrun => ⟨fun hpos hclaim hdoubt => ?doubt, fun hpos hnot => ?stands, fun hpos => ?waiting⟩
  case doubt =>
    have hexec := (exec_lostMark hrun).trans (congrArg _ (State.loseMark_of_doubt hpos hclaim hdoubt))
    exact ⟨_, hexec, rfl, rfl, rfl, rfl, rfl, rfl, State.released_of_waiting rfl⟩
  case stands =>
    have hexec := (exec_lostMark hrun).trans (congrArg _ (State.loseMark_of_no_doubt hpos hnot))
    exact ⟨_, hexec, rfl, rfl, rfl, rfl, rfl, rfl, rfl, State.released_of_waiting rfl⟩
  case waiting => exact (exec_lostMark hrun).trans (congrArg _ (State.loseMark_of_waiting hpos))

/-- Settles O27: the cut without a claim drops the message in flight, the cut with a claim is DOUBT, where the expiry
pass of the new cycle does nothing. -/
theorem earlyMarkCutsCycle : Obligations.EarlyMarkCutsCycle := by
  refine ⟨fun bit claimStart s hrun hearly hclaim hstart hdue => ?unclaimed,
    fun bit claimStart s hrun hearly hclaim hdoubt => ?claimed⟩
  case unclaimed =>
    obtain ⟨l, seek, snap, n, hline, hcut⟩ :=
      State.cutCycle_of_no_claim (State.cutClaimActive_of_no_claim hclaim hstart) hdue
    have hexec := exec_earlyMark (bit := bit) (claimStart := claimStart) hrun hearly
    rw [hcut] at hexec
    exact ⟨_, hexec, rfl, hline.claimActive, rfl, hline.counters, State.beginCycle_controller _,
      State.beginCycle_roster _, rfl, rfl, rfl, rfl, s.dropFlight_tags⟩
  case claimed =>
    obtain ⟨l, seek, snap, hline, hcut⟩ :=
      State.cutCycle_of_claim (bit := bit) (claimStart := claimStart) hclaim hdoubt
    have hexec := exec_earlyMark (bit := bit) (claimStart := claimStart) hrun hearly
    rw [hcut, State.beginCycle_of_doubt (State.enterDoubt_station _ _)] at hexec
    exact ⟨_, hexec, rfl, rfl, hline.claimActive, hline.counters, rfl, rfl, rfl, rfl, rfl, rfl, rfl⟩
end

section
/-! SUPPORT. The message segment (R140): the intact test of R32 in its five parts, what the point changes, the stance of
a member by the reasons of R36 to R40, and the statement about MESSAGE_SEGMENT settled. -/

namespace Sys2Proof.Machine

variable {s : State} {bytes : MessageBytes}

/-! ## The intact test (R32) -/

theorem claimAgrees_winner (cls : BitVec 2) (addr : Addr) (k : Kind) (m : MessageBytes) :
    claimAgrees (some (.winner cls addr)) k m = true ↔ senderOf m = addr ∧ k.cls.code = cls := by
  simp [claimAgrees]

theorem contentAccepted_iff (acquiring : Bool) (k : Kind) (m : MessageBytes) :
    contentAccepted acquiring k m = true ↔
      (acquiring = true → ∀ index content, bodyOf k (payloadOf m) = .snap index content →
        snapContentValid index.toNat content = true) := by
  unfold contentAccepted
  cases bodyOf k (payloadOf m) with
  | snap index content => cases acquiring <;> simp
  | _ => simp

theorem State.intactTest_iff {cls : BitVec 2} {addr : Addr} (hclaim : s.verdict.claim = some (.winner cls addr)) :
    s.intactTest bytes = true ↔
      crc (bytes.toList.take 18) = word16 (bytes.get 18) (bytes.get 19)
      ∧ ∃ k, kindOf bytes = some k ∧ senderOf bytes = addr ∧ k.cls.code = cls
        ∧ (s.acquiring = true → ∀ index content, bodyOf k (payloadOf bytes) = .snap index content →
            snapContentValid index.toNat content = true) := by
  unfold State.intactTest
  cases hkind : kindOf bytes with
  | none => simp
  | some k => simp [hclaim, claimAgrees_winner, contentAccepted_iff, crcPasses, and_assoc]

theorem State.intactTest_sender {cls : BitVec 2} {addr : Addr} (hclaim : s.verdict.claim = some (.winner cls addr))
    (hintact : s.intactTest bytes = true) : senderOf bytes = addr := by
  obtain ⟨-, k, -, hsender, -⟩ := (State.intactTest_iff hclaim).mp hintact
  exact hsender

/-! ## What the point changes (R140) -/

theorem exec_messageSegment (hrun : s.running) (bytes : MessageBytes) :
    exec (.messageSegment bytes) s = .next (s.takeMessage bytes) :=
  congrArg Host.Outcome.next (State.unlessReset_of_running hrun)

/-- The line after a message segment: the receive register and the intact result filled, a message not intact
counted. -/
structure Line.Received (l l' : Line) (bytes : MessageBytes) (passes : Bool) : Prop where
  receive   : l'.receive = some bytes
  intact    : l'.intact = some passes
  crcErrors : l'.counters.crcErrors =
                if passes then l.counters.crcErrors else lineCount l.counters.crcErrors

theorem State.receive_shape (s : State) (bytes : MessageBytes) :
    ∃ l, s.line.Received l bytes (s.intactTest bytes) ∧ s.receive bytes = s.setLine l := by
  unfold State.receive
  cases hintact : s.intactTest bytes with
  | true => exact ⟨{ s.line with receive := some bytes, intact := some true }, ⟨rfl, rfl, rfl⟩, rfl⟩
  | false =>
    exact ⟨{ s.line with
        receive := some bytes, intact := some false
        counters := { s.line.counters with crcErrors := lineCount s.line.counters.crcErrors } },
      ⟨rfl, rfl, rfl⟩, rfl⟩

/-- The winner's readback after the point is made: the message in flight and the line, no message counted. -/
theorem State.readBackMessage_at_point (s : State) (bytes : MessageBytes) :
    ∃ flight l, l.counters.crcErrors = s.line.counters.crcErrors
      ∧ (s.makePoint .message 431).readBackMessage bytes =
          (s.setSelector { s.selector with inFlight := flight }).setLine l := by
  obtain ⟨flight, n, hread⟩ := (s.makePoint .message 431).readBackMessage_shape bytes
  exact ⟨flight, { (s.makePoint .message 431).line with
    counters := { s.line.counters with readbackMismatches := n } }, rfl, hread⟩

/-- R34: after a claim with a winner the stance of the local state stands where it takes one. -/
theorem State.takeStance_of_winner {cls : BitVec 2} {addr : Addr} (hclaim : s.verdict.claim = some (.winner cls addr))
    (intact : Bool) :
    s.takeStance bytes intact =
      s.setVerdict
        { s.verdict with
          stance :=
            if s.stanceOn bytes intact = .notTaken then s.verdict.stance else s.stanceOn bytes intact } := by
  have hwinner : s.claimHeldWinner = true := by simp [State.claimHeldWinner, hclaim]
  rw [State.takeStance_shape]
  by_cases h : s.stanceOn bytes intact = .notTaken <;> simp [h, hwinner]

section
variable {cls : BitVec 2} {addr : Addr} (hcan : s.canMake .message = true) (hactive : s.line.claimActive = true)
  (hclaim : s.verdict.claim = some (.winner cls addr))
include hcan hactive hclaim

/-- In a cycle with a winner the point changes the message in flight, the line and the stance alone. -/
theorem State.takeMessage_of_winner (bytes : MessageBytes) :
    ∃ flight l, s.line.Received l bytes (s.intactTest bytes)
      ∧ s.takeMessage bytes =
          ((s.setSelector { s.selector with inFlight := flight }).setLine l).setVerdict
            { s.verdict with
              stance :=
                if s.stanceOn bytes (s.intactTest bytes) = .notTaken then s.verdict.stance
                else s.stanceOn bytes (s.intactTest bytes) } := by
  have htake : s.takeMessage bytes =
      (((s.makePoint .message 431).readBackMessage bytes).receive bytes).takeStance bytes (s.intactTest bytes) :=
    (if_pos hcan).trans (if_pos hactive)
  obtain ⟨flight, l, hcount, hread⟩ := s.readBackMessage_at_point bytes
  rw [hread] at htake
  obtain ⟨l', hline, hreceive⟩ :=
    ((s.setSelector { s.selector with inFlight := flight }).setLine l).receive_shape bytes
  have hstance := State.takeStance_of_winner (bytes := bytes)
    (s := (s.setSelector { s.selector with inFlight := flight }).setLine l') hclaim (s.intactTest bytes)
  rw [hreceive] at htake
  exact ⟨flight, l', ⟨hline.receive, hline.intact, hcount ▸ hline.crcErrors⟩, htake.trans hstance⟩

theorem exec_messageSegment_stance (hrun : s.running) (bytes : MessageBytes) :
    ∃ t, exec (.messageSegment bytes) s = .next t
      ∧ ∀ stance, stance ≠ .notTaken → s.stanceOn bytes (s.intactTest bytes) = stance →
          t.verdict.stance = stance := by
  obtain ⟨flight, l, -, htake⟩ := State.takeMessage_of_winner hcan hactive hclaim bytes
  exact ⟨_, (exec_messageSegment hrun bytes).trans (congrArg _ htake),
    fun stance htaken hon => (if_neg (hon ▸ htaken)).trans hon⟩

end

/-! ## The reasons of a member (R36 to R40) -/

theorem zoneOf_of_lt {b : Byte} (h : b.toNat < 64) : zoneOf b = some ⟨b.toNat, h⟩ := dif_pos h

theorem zoneOf_eq_none_iff (b : Byte) : zoneOf b = none ↔ 64 ≤ b.toNat := by
  unfold zoneOf
  split <;> simp <;> omega

theorem LeaseMode.ofCode_eq_none_iff (b : Byte) : LeaseMode.ofCode b.toNat = none ↔ b ≠ 1 ∧ b ≠ 2 := by
  revert b
  decide

theorem EvictReason.ofCode_eq_none_iff (b : Byte) : EvictReason.ofCode b.toNat = none ↔ b ≠ 1 ∧ b ≠ 2 := by
  revert b
  decide

/-- R33, R37, R39: the model's test of objection is the list of reasons, kind by kind. -/
theorem State.objects_iff (s : State) (sender : Addr) (b : Body) :
    s.objects sender b = true ↔ s.objectionReason sender b := by
  unfold State.objects State.objectionReason Body.outOfRange
  cases b with
  | found => simp
  | joinReq => simp
  | leave reason => simp
  | evict target reason => simp [EvictReason.ofCode_eq_none_iff, or_assoc]
  | claim zone mode wait duration =>
    rcases Nat.lt_or_ge zone.toNat 64 with hlt | hge
    · simp [zoneOf_of_lt hlt, Nat.not_le_of_lt hlt, LeaseMode.ofCode_eq_none_iff, zoneFlag, State.isOwn, or_assoc]
    · simp [(zoneOf_eq_none_iff zone).mpr hge, hge]
  | renew zone duration => simp [zoneOf_eq_none_iff]
  | release zone => simp [zoneOf_eq_none_iff]
  | cancel zone => simp [zoneOf_eq_none_iff]
  | note destination length data => simp [Config.allMembers, Config.noteMax, Nat.lt_iff_add_one_le, or_assoc]
  | snap index content => simp [or_assoc]

theorem State.isDestination_iff (s : State) (destination : Byte) :
    s.isDestination destination = true ↔
      destination = 16 ∨ ∃ a, s.own = some a ∧ destination.toNat = a.val := by
  have hall : destination.toNat = Config.allMembers ↔ destination = 16 := BitVec.toNat_inj (y := 16)
  unfold State.isDestination
  cases s.own <;> simp [hall]

/-- R40: the model's test of a NOTE for which there is no room. -/
theorem State.withholds_iff (s : State) (b : Body) : s.withholds b = true ↔ s.noteWithheld b := by
  cases b with
  | note destination length data =>
    exact (Bool.and_eq_true_iff).trans (and_congr (s.isDestination_iff destination) decide_eq_true_iff)
  | _ => simp [State.withholds, State.noteWithheld]

theorem basisChecked_iff (k : Kind) : basisChecked k = true ↔ k ≠ .found ∧ k ≠ .joinReq ∧ k ≠ .leave := by
  cases k <;> simp [basisChecked]

/-! ## The stance of a member -/

/-- R36: a SYNCED station, and a LEAVING one with own role MEMBER, takes the stance of a member on an intact message
and the stance none on every other. -/
theorem State.stanceOn_of_member (hst : s.station = .synced ∨ (s.station = .leaving ∧ s.ownRole = .member))
    {k : Kind} (hkind : kindOf bytes = some k) : s.stanceOn bytes true = s.memberStance k bytes := by
  rcases hst with hst | ⟨hst, hrole⟩ <;> simp [State.stanceOn, *]

theorem State.stanceOn_of_damaged (hst : s.station = .synced ∨ (s.station = .leaving ∧ s.ownRole = .member))
    (bytes : MessageBytes) : s.stanceOn bytes false = .silent := by
  rcases hst with hst | ⟨hst, hrole⟩ <;> cases hkind : kindOf bytes <;> simp [State.stanceOn, *]

section
variable {k : Kind}

theorem State.memberStance_of_reason (h : s.objectionReason (senderOf bytes) (bodyOf k (payloadOf bytes))) :
    s.memberStance k bytes = .object :=
  if_pos ((s.objects_iff _ _).mpr h)

variable (hno : ¬ s.objectionReason (senderOf bytes) (bodyOf k (payloadOf bytes)))
include hno

theorem State.memberStance_of_basis (hjoin : k ≠ .joinReq) (hleave : k ≠ .leave) (hbasis : basisOf bytes ≠ s.basis) :
    s.memberStance k bytes = .silent := by
  have hobj := mt (s.objects_iff _ _).mp hno
  have hfound : k ≠ .found := fun h => hno (h ▸ trivial)
  have hchecked := (basisChecked_iff k).mpr ⟨hfound, hjoin, hleave⟩
  simp [State.memberStance, hobj, State.basisPasses, hbasis, hchecked]

theorem State.memberStance_of_withheld (hroom : s.noteWithheld (bodyOf k (payloadOf bytes))) :
    s.memberStance k bytes = .silent := by
  have hobj := mt (s.objects_iff _ _).mp hno
  simp [State.memberStance, hobj, (s.withholds_iff _).mpr hroom]

theorem State.memberStance_of_acceptable (hroom : ¬ s.noteWithheld (bodyOf k (payloadOf bytes)))
    (hbasis : k = .leave ∨ k = .joinReq ∨ basisOf bytes = s.basis) : s.memberStance k bytes = .accept := by
  have hobj := mt (s.objects_iff _ _).mp hno
  have hwith := mt (s.withholds_iff _).mp hroom
  have hpasses : s.basisPasses k (basisOf bytes) = true := by
    rcases hbasis with rfl | rfl | hbasis
    · rfl
    · rfl
    · simp [State.basisPasses, hbasis]
  simp [State.memberStance, hobj, hwith, hpasses]

end

end Sys2Proof.Machine

open Sys2Proof Sys2Proof.Machine

/-- Settles O37: the point fills the register and takes the stance of the local state on what the intact test gives; a
member's stance follows its objection reasons, the basis and the room for a NOTE, in this order. -/
theorem messageSegmentTakesStance : Obligations.MessageSegmentTakesStance := by
  refine fun bytes s cls addr hrun hcan hactive hclaim => ⟨?point, State.intactTest_iff hclaim, fun hst => ?member⟩
  case point =>
    obtain ⟨flight, l, hline, htake⟩ := State.takeMessage_of_winner hcan hactive hclaim bytes
    exact ⟨_, (exec_messageSegment hrun bytes).trans (congrArg _ htake), hline.receive, hline.intact, hline.crcErrors,
      rfl, rfl, rfl, rfl, rfl, rfl⟩
  case member =>
    obtain ⟨t, hexec, hstance⟩ := exec_messageSegment_stance hcan hactive hclaim hrun bytes
    refine ⟨t, hexec, fun hdamaged => hstance .silent (by decide) ?damaged, fun k hintact hkind => ?intact⟩
    case damaged => rw [hdamaged, State.stanceOn_of_damaged hst]
    case intact =>
      have hon : s.stanceOn bytes (s.intactTest bytes) = s.memberStance k bytes := by
        rw [hintact, State.stanceOn_of_member hst hkind]
      obtain rfl := State.intactTest_sender hclaim hintact
      exact ⟨fun hreason => hstance .object (by decide) (hon.trans (State.memberStance_of_reason hreason)),
        fun hno hleave hbasis hjoin =>
          hstance .silent (by decide) (hon.trans (State.memberStance_of_basis hno hjoin hleave hbasis)),
        fun hno hroom => hstance .silent (by decide) (hon.trans (State.memberStance_of_withheld hno hroom)),
        fun hno hroom hbasis =>
          hstance .accept (by decide) (hon.trans (State.memberStance_of_acceptable hno hroom hbasis))⟩
end

section
/-! SUPPORT. One bit time (R134 to R137, R142): the point of each bit at which one stands, the position after it, and the
statement about a step with no command waiting settled. -/

namespace Sys2Proof.Machine

variable {s : State} {n : Fin 512}

/-! ## The bit time of a bit -/

/-- Away from bit 259 a bit time makes the point of its bit, and then the position moves on. -/
theorem bitTime_of_ne (hrun : s.running) (hpos : s.line.position = .bit n) (h : n.val ≠ 259) :
    bitTime s = (s.pointAfter n).setPosition (bitAfter n) :=
  (bitTime_bit hrun hpos).trans (State.pointBefore_of_ne h)

/-- At bit 259 the position moves on first: the selection point stands at the falling edge of bit 260 (R137). -/
theorem bitTime_selection (hrun : s.running) (hpos : s.line.position = .bit n) (h : n.val = 259) :
    bitTime s = (s.setPosition (bitAfter n)).takeSelection := by
  rw [bitTime_bit hrun hpos, State.pointAfter_quiet (by omega) (by omega)]
  exact if_pos h

/-- A bit at which no point is made, or whose point is made already, changes the position alone. -/
theorem bitTime_quiet (hrun : s.running) (hpos : s.line.position = .bit n) (h : n.val ≠ 259)
    (hquiet : s.pointAfter n = s) : bitTime s = s.setPosition (bitAfter n) := by
  rw [bitTime_of_ne hrun hpos h, hquiet]

/-! ## The points by their bits (R137, R140) -/

theorem State.pointAfter_status (h : n.val = 255) : s.pointAfter n = s.takeStatus s.quietSlots := by
  simp [State.pointAfter, h]

theorem State.pointAfter_claim (h : n.val = 266) : s.pointAfter n = s.takeClaim s.quietClaim := by
  simp [State.pointAfter, h]

theorem State.pointAfter_message (h : n.val = 431) : s.pointAfter n = s.takeMessage s.quietMessage := by
  simp [State.pointAfter, h]

theorem State.pointAfter_verdict (h : n.val = 499) :
    s.pointAfter n = s.takeVerdict s.quietCopyA s.quietCopyB := by
  simp [State.pointAfter, h]

/-! ## The position after a bit time -/

/-- The selection point moves the position up to bit 260, where it stands, and no further. -/
theorem State.takeSelection_position (h : s.line.position.advanceTo 260 = s.line.position) :
    s.takeSelection.line.position = s.line.position := by
  cases hcan : s.canMake .selection with
  | false => rw [State.takeSelection_of_not hcan]
  | true =>
    obtain ⟨urgent, sync, htake⟩ := State.takeSelection_eq hcan
    rw [htake]
    rcases (s.withDuties urgent sync).offerChoice_cases with hnone | ⟨own, source, hoffer⟩
    · rw [hnone]
      exact h
    · rw [hoffer]
      exact h

theorem bitTime_position (hrun : s.running) (hpos : s.line.position = .bit n) :
    (bitTime s).line.position = bitAfter n := by
  by_cases h : n.val = 259
  · obtain rfl : n = 259 := Fin.ext h
    rw [bitTime_selection hrun hpos rfl]
    exact State.takeSelection_position (s := s.setPosition (bitAfter 259)) rfl
  · rw [bitTime_of_ne hrun hpos h]
    rfl

end Sys2Proof.Machine

open Sys2Proof Sys2Proof.Machine

/-- Settles O12: the step is one bit time, taken apart by the position and, at the bits of the cycle, by the point that
stands there. -/
theorem bitTimeAdvances : Obligations.BitTimeAdvances := by
  intro s hrun hempty
  have hstep := step_of_empty hempty
  refine ⟨fun hpos => ?waiting, fun n hpos => ?bit, fun hpos => ?due, fun k hpos hk => ?stretch, fun hpos => ?lost⟩
  case waiting => rw [hstep, bitTime_waiting hpos]
  case bit =>
    have hne (h : n.val ≠ 259) := bitTime_of_ne hrun hpos h
    refine ⟨_, hstep, bitTime_position hrun hpos, fun hbit => ?quiet, fun hpoint hbit => ?made, fun hbit => ?status,
      fun hbit => ?selection, fun hbit => ?claim, fun hbit => ?message, fun hbit => ?verdict⟩
    case quiet => exact bitTime_quiet hrun hpos (by omega) (State.pointAfter_quiet (by omega) (by omega))
    case made => exact bitTime_quiet hrun hpos (by omega) (s.pointAfter_at_verdict n hpoint)
    case selection =>
      rw [bitTime_selection hrun hpos hbit]
      exact exec_selectionPoint (s := s.setPosition (bitAfter n)) hrun
    case status =>
      exact ⟨_, exec_statusPoint hrun _, by rw [hne (by omega), State.pointAfter_status hbit]⟩
    case claim =>
      exact ⟨_, exec_claimSegment hrun _, by rw [hne (by omega), State.pointAfter_claim hbit]⟩
    case message =>
      exact ⟨_, exec_messageSegment hrun _, by rw [hne (by omega), State.pointAfter_message hbit]⟩
    case verdict =>
      exact ⟨_, exec_verdictPoint hrun _ _, by rw [hne (by omega), State.pointAfter_verdict hbit]⟩
  case due => rw [hstep, bitTime_due hrun hpos]
  case stretch => rw [hstep, bitTime_stretch hrun hpos hk]
  case lost => rw [hstep, bitTime_stretch_end hrun hpos (Nat.le_refl 15), exec_lostMark hrun]
end

section
/-! SUPPORT. The line requests and RECALL (R148, R152): which parameters are out of range, which block takes a row, the
reply of the first check that fails, the entry that joins and the entry that leaves; the three statements settled. -/

namespace Sys2Proof.Machine

/-! ## The ranges of the parameters (R148 step 2) -/

theorem claimRequest_eq_none_iff (zone mode wait d : Byte) :
    claimRequest zone mode wait d = none ↔ 64 ≤ zone.toNat ∨ (mode.toNat ≠ 1 ∧ mode.toNat ≠ 2) := by
  have hmode : LeaseMode.ofCode mode.toNat = none ↔ mode.toNat ≠ 1 ∧ mode.toNat ≠ 2 := by
    rw [LeaseMode.ofCode_eq_none_iff, ne_eq, ne_eq, ← BitVec.toNat_inj, ← BitVec.toNat_inj]
    rfl
  rw [← zoneOf_eq_none_iff, ← hmode]
  unfold claimRequest
  cases zoneOf zone <;> cases LeaseMode.ofCode mode.toNat <;> simp

theorem renewRequest_eq_none_iff (zone d : Byte) : renewRequest zone d = none ↔ 64 ≤ zone.toNat := by
  rw [renewRequest, Option.map_eq_none_iff, zoneOf_eq_none_iff]

theorem releaseRequest_eq_none_iff (zone : Byte) : releaseRequest zone = none ↔ 64 ≤ zone.toNat := by
  rw [releaseRequest, Option.map_eq_none_iff, zoneOf_eq_none_iff]

theorem cancelRequest_eq_none_iff (zone : Byte) : cancelRequest zone = none ↔ 64 ≤ zone.toNat := by
  rw [cancelRequest, Option.map_eq_none_iff, zoneOf_eq_none_iff]

theorem noteRequest_eq_none_iff (destination length : Byte) (data : List Byte) :
    noteRequest destination length data = none ↔
      17 ≤ destination.toNat ∨ length.toNat = 0 ∨ 13 ≤ length.toNat := by
  have hzero : length = 0 ↔ length.toNat = 0 := BitVec.toNat_inj.symm
  have hmax : Config.noteMax < length.toNat ↔ 13 ≤ length.toNat := Iff.rfl
  have hmembers : Config.allMembers < destination.toNat ↔ 17 ≤ destination.toNat := Iff.rfl
  simp only [noteRequest, hzero, hmax, hmembers, ite_eq_left_iff, reduceCtorEq, imp_false, not_not]

/-! ## The row of a line request -/

/-- A line request row is the transaction of a host command, which hands tag and request to the Send Queue. -/
theorem runCommand_of_lineRequest {i : Instr} {tag : Byte} {r : Option Request} (h : lineRequest i = some (tag, r)) :
    ∃ c params, transactionOf i = some (.known c, params) ∧ ∀ s, runCommand c params s = s.takeRequest tag r := by
  cases i with
  | claim | renew | release | cancel | note =>
    cases h
    exact ⟨_, _, rfl, fun _ => rfl⟩
  | _ => cases h

/-! ## The checks of a line request (R148) -/

section
variable {s : State} {tag : Byte}

theorem State.takeRequest_of_state (hst : s.station ≠ .synced) (r : Option Request) :
    s.takeRequest tag r = s.refuse .state := if_neg hst

theorem State.takeRequest_of_range (hst : s.station = .synced) : s.takeRequest tag none = s.refuse .range :=
  if_pos hst

section
variable (hst : s.station = .synced) {r : Request}
include hst

theorem State.takeRequest_of_full (hfull : 8 ≤ s.sendQueue.entries.length) :
    s.takeRequest tag (some r) = s.refuse .full :=
  (if_pos hst).trans (if_pos hfull)

variable (hroom : s.sendQueue.entries.length < 8)
include hroom

theorem State.takeRequest_of_tagInUse (htag : s.sendQueue.tagInUse tag = true) :
    s.takeRequest tag (some r) = s.refuse .tagInUse :=
  (if_pos hst).trans <| (if_neg (Nat.not_le_of_lt hroom)).trans (if_pos htag)

variable (htag : s.sendQueue.tagInUse tag = false)
include htag

theorem State.takeRequest_of_duplicate (hdup : s.sendQueue.duplicates r = true) :
    s.takeRequest tag (some r) = s.refuse .duplicate :=
  (if_pos hst).trans <| (if_neg (Nat.not_le_of_lt hroom)).trans <| (if_neg (Bool.eq_false_iff.mp htag)).trans
    (if_pos hdup)

variable (hdup : s.sendQueue.duplicates r = false)
include hdup

/-- With the checks of steps 1 to 5 passed the wait count decides (R148 step 6). -/
theorem State.takeRequest_of_no_duplicate :
    s.takeRequest tag (some r) =
      if s.sendQueue.waitsFull r = true then s.refuse .waitsFull
      else (s.setSendQueue (s.sendQueue.join tag r)).done [] :=
  (if_pos hst).trans <| (if_neg (Nat.not_le_of_lt hroom)).trans <| (if_neg (Bool.eq_false_iff.mp htag)).trans
    (if_neg (Bool.eq_false_iff.mp hdup))

theorem State.takeRequest_of_waitsFull (hflag : r.waitFlag = true) (hfull : 16 ≤ s.sendQueue.waitCount) :
    s.takeRequest tag (some r) = s.refuse .waitsFull :=
  (State.takeRequest_of_no_duplicate hst hroom htag hdup).trans
    (if_pos (Bool.and_eq_true_iff.mpr ⟨hflag, decide_eq_true hfull⟩))

theorem State.takeRequest_accepted (hwaits : r.waitFlag = true → s.sendQueue.waitCount < 16) :
    s.takeRequest tag (some r) = (s.setSendQueue (s.sendQueue.join tag r)).done [] := by
  refine (State.takeRequest_of_no_duplicate hst hroom htag hdup).trans (if_neg fun hfull => ?_)
  obtain ⟨hflag, hcount⟩ := Bool.and_eq_true_iff.mp hfull
  exact absurd (hwaits hflag) (Nat.not_lt_of_le (of_decide_eq_true hcount))

end

end

theorem SendQueue.tagInUse_of_unused {q : SendQueue} {tag : Byte} (h : ∀ e ∈ q.entries, e.tag ≠ tag) :
    q.tagInUse tag = false := by
  simpa [SendQueue.tagInUse] using h

theorem Request.claimZone?_eq_some_iff (r : Request) (z : ZoneId) :
    r.claimZone? = some z ↔ ∃ m w d, r = .claim z m w d := by
  cases r <;> simp [Request.claimZone?]

/-- R148 step 5: a CLAIM duplicates only a CLAIM that names the same zone. -/
theorem SendQueue.duplicates_of_distinct {q : SendQueue} {r : Request}
    (h : ∀ z m w d, r = .claim z m w d → ∀ e ∈ q.entries, ∀ m' w' d', e.request ≠ .claim z m' w' d') :
    q.duplicates r = false := by
  refine Bool.eq_false_iff.mpr fun hdup => ?_
  simp only [SendQueue.duplicates, Bool.and_eq_true, List.any_eq_true, beq_iff_eq] at hdup
  obtain ⟨hclaim, e, he, hsame⟩ := hdup
  obtain ⟨z, hz⟩ := Option.isSome_iff_exists.mp hclaim
  obtain ⟨m, w, d, hr⟩ := (r.claimZone?_eq_some_iff z).mp hz
  obtain ⟨m', w', d', hreq⟩ := (e.request.claimZone?_eq_some_iff z).mp (hsame.trans hz)
  exact h z m w d hr e he m' w' d' hreq

/-! ## RECALL (R152) -/

section
variable {s : State} {tag : Byte} {e : SendEntry}

theorem State.recall_of_waiting (h : s.sendQueue.find tag = some e) (hst : e.state = .waiting) :
    s.recall tag = (s.setSendQueue (s.sendQueue.drop tag)).done [] := by
  simp only [State.recall, h, hst]

theorem State.recall_of_inFlight (h : s.sendQueue.find tag = some e) (hst : e.state = .inFlight) :
    s.recall tag = s.refuse .inflight := by
  simp only [State.recall, h, hst]

theorem SendQueue.find_of_unused {q : SendQueue} (h : ∀ e ∈ q.entries, e.tag ≠ tag) : q.find tag = none := by
  simpa [SendQueue.find] using h

theorem State.recall_of_unused (h : ∀ e ∈ s.sendQueue.entries, e.tag ≠ tag) :
    s.recall tag = s.refuse .notFound := by
  simp only [State.recall, SendQueue.find_of_unused h]

end

end Sys2Proof.Machine

open Sys2Proof Sys2Proof.Machine

/-- Settles O16: the ranges request by request, then the six checks in their order. -/
theorem lineRequestRefused : Obligations.LineRequestRefused := by
  refine ⟨⟨claimRequest_eq_none_iff, renewRequest_eq_none_iff, releaseRequest_eq_none_iff,
    cancelRequest_eq_none_iff, noteRequest_eq_none_iff⟩, fun i tag r c params s p hwf hi hline hrun hp => ?_⟩
  obtain ⟨c, params, hi', hcommand⟩ := runCommand_of_lineRequest hline
  obtain ⟨rfl, rfl⟩ := Prod.mk.inj (Option.some.inj (hi.symm.trans hi'))
  have refused {code : ReplyCode} (h : s.takeRequest tag r = s.refuse code) :=
    exec_command_refused hwf hi hrun hp ((hcommand s).trans h)
  refine ⟨fun hst => refused (State.takeRequest_of_state hst r), fun hst hr => refused ?range,
    fun hst hr hfull => refused ?full, fun hst hr hroom htag => refused ?tagInUse,
    fun q hr hst hroom htag hdup => refused ?duplicate,
    fun q hr hst hroom htag hdup hflag hfull => refused ?waitsFull⟩
  case range => exact hr ▸ State.takeRequest_of_range hst
  case full =>
    obtain ⟨q, rfl⟩ := Option.ne_none_iff_exists'.mp hr
    exact State.takeRequest_of_full hst hfull
  case tagInUse =>
    obtain ⟨q, rfl⟩ := Option.ne_none_iff_exists'.mp hr
    exact State.takeRequest_of_tagInUse hst hroom htag
  case duplicate => exact hr ▸ State.takeRequest_of_duplicate hst hroom htag hdup
  case waitsFull => exact hr ▸ State.takeRequest_of_waitsFull hst hroom htag hdup hflag hfull

/-- Settles O17: the checks passed, what is left of the request is its entry at the tail. -/
theorem lineRequestAccepted : Obligations.LineRequestAccepted := by
  intro i tag r c params s p hwf hi hline hrun hp hst hroom htag hdistinct hwaits
  obtain ⟨c, params, hi', hcommand⟩ := runCommand_of_lineRequest hline
  obtain ⟨rfl, rfl⟩ := Prod.mk.inj (Option.some.inj (hi.symm.trans hi'))
  have haccepted := State.takeRequest_accepted hst hroom (SendQueue.tagInUse_of_unused htag)
    (SendQueue.duplicates_of_distinct hdistinct) hwaits
  exact exec_command_done hwf hi hrun hp ((hcommand s).trans haccepted)

/-- Settles O18: by the entry the tag finds, and its state. -/
theorem recallCommand : Obligations.RecallCommand := fun _ _ _ hrun hp =>
  ⟨fun _ hfind hst => exec_command_done rfl rfl hrun hp (State.recall_of_waiting hfind hst),
    fun _ hfind hst => exec_command_refused rfl rfl hrun hp (State.recall_of_inFlight hfind hst),
    fun hunused => exec_command_refused rfl rfl hrun hp (State.recall_of_unused hunused)⟩
end

section
/-! SUPPORT. The send queue and the message in flight (R126, R147), seen apart from the rest of the station, and the
shared operations that leave them as they are or empty both. -/

namespace Sys2Proof.Machine

/-- The part of a station that the forms of the send queue and of the message in flight speak of. -/
structure Outbox where
  station     : StationState
  queue       : SendQueue
  flight      : Option InFlight
  claimActive : Bool
  onBit       : Bool
  point       : CyclePoint

/-- That part of a state. -/
def State.outbox (s : State) : Outbox :=
  { station := s.station, queue := s.sendQueue, flight := s.selector.inFlight
    claimActive := s.line.claimActive, onBit := s.line.position.isBit, point := s.line.point }

/-- No entry, no own waits record and no message in flight: what each departure leaves (R109, R113, R115). -/
structure State.Emptied (s : State) : Prop where
  queue  : s.sendQueue = SendQueue.cleared
  flight : s.selector.inFlight = none

/-- The send queue and the message in flight stand as they are, or both are emptied. -/
def State.Spares (s t : State) : Prop :=
  t.Emptied ∨ t.outbox = s.outbox

namespace State.Spares

variable {s t u : State}

theorem refl (s : State) : s.Spares s := .inr rfl

theorem of_outbox (h : t.outbox = s.outbox) : s.Spares t := .inr h

theorem of_emptied (hqueue : t.sendQueue = SendQueue.cleared) (hflight : t.selector.inFlight = none) : s.Spares t :=
  .inl ⟨hqueue, hflight⟩

theorem emptied (h : s.Spares t) (hs : s.Emptied) : t.Emptied := by
  rcases h with ht | hsame
  · exact ht
  · exact ⟨(congrArg Outbox.queue hsame).trans hs.queue, (congrArg Outbox.flight hsame).trans hs.flight⟩

theorem trans (h : s.Spares t) (h' : t.Spares u) : s.Spares u := by
  rcases h with ht | hsame
  · exact .inl (h'.emptied ht)
  · exact h'.imp_right fun hsame' => hsame'.trans hsame

/-- An operation on the rest of the station, and then another. -/
theorem from_outbox (h : t.Spares u) (ht : t.outbox = s.outbox) : s.Spares u :=
  (of_outbox ht).trans h

/-- An operation that takes place on a condition. -/
theorem ite {c : Prop} [Decidable c] (h : c → s.Spares t) (h' : ¬ c → s.Spares u) :
    s.Spares (if c then t else u) := by
  split
  · exact h ‹_›
  · exact h' ‹_›

/-- An operation that takes place on a condition, or not at all. -/
theorem when {c : Prop} [Decidable c] (h : s.Spares t) : s.Spares (if c then t else s) :=
  ite (fun _ => h) (fun _ => refl s)

end State.Spares

open State.Spares

/-! ## Operations on the rest of the station -/

@[simp] theorem CyclePosition.advanceTo_isBit (p : CyclePosition) (bit : Fin 512) :
    (p.advanceTo bit).isBit = p.isBit := by
  unfold CyclePosition.advanceTo
  split
  · split <;> rfl
  all_goals rfl

theorem State.misreadBit_outbox (s : State) (bit : Fin 512) : (s.misreadBit bit).outbox = s.outbox := by
  simp [State.outbox, State.misreadBit, State.reachBit, State.station]

theorem State.makePoint_outbox (s : State) (p : CyclePoint) (bit : Fin 512) :
    (s.makePoint p bit).outbox = { s.outbox with point := p } := by
  simp [State.outbox, State.makePoint, State.station]

theorem State.cleanSlot_outbox (s : State) : s.cleanSlot.outbox = s.outbox := by
  obtain ⟨run, wait, h⟩ := s.cleanSlot_shape
  rw [h]
  rfl

theorem State.settleRun_outbox (s : State) : s.settleRun.outbox = s.outbox := by
  obtain ⟨run, wait, h⟩ := s.settleRun_shape
  rw [h]
  rfl

theorem State.countSlots_outbox (s : State) (slots : Slots) : (s.countSlots slots).outbox = s.outbox := by
  obtain ⟨count, peers, h, -⟩ := s.countSlots_shape slots
  rw [h]
  rfl

theorem State.seekStep_outbox (s : State) : s.seekStep.outbox = s.outbox := by
  unfold State.seekStep
  split <;> rfl

theorem State.formDuties_outbox (s : State) : s.formDuties.outbox = s.outbox := by
  unfold State.formDuties
  split <;> rfl

theorem State.receive_outbox (s : State) (m : MessageBytes) : (s.receive m).outbox = s.outbox := by
  unfold State.receive
  dsimp only
  split <;> rfl

theorem State.takeStance_outbox (s : State) (m : MessageBytes) (intact : Bool) :
    (s.takeStance m intact).outbox = s.outbox := by
  rw [State.takeStance_shape]
  rfl

theorem State.runHoldOffs_outbox (s : State) : s.runHoldOffs.outbox = s.outbox := by
  unfold State.runHoldOffs
  split <;> rfl

theorem State.clearServed_outbox (s : State) : s.clearServed.outbox = s.outbox := by
  unfold State.clearServed
  split <;> rfl

theorem State.compareCopies_outbox (s : State) (a b : VerdictCopy) : (s.compareCopies a b).outbox = s.outbox := by
  unfold State.compareCopies
  split <;> rfl

theorem State.endDuty_outbox (s : State) (source : Source) : (s.endDuty source).outbox = s.outbox := by
  cases source <;> rfl

theorem State.deliver_outbox (s : State) (sender : Addr) (b : Body) : (s.deliver sender b).outbox = s.outbox := by
  unfold State.deliver
  split
  · split <;> rfl
  all_goals rfl

theorem State.loadRoster_outbox (s : State) (content : List Byte) : (s.loadRoster content).outbox = s.outbox := by
  unfold State.loadRoster
  split <;> rfl

theorem State.loadZone_outbox (s : State) (index : Nat) (content : List Byte) :
    (s.loadZone index content).outbox = s.outbox := by
  unfold State.loadZone
  split
  · split <;> rfl
  · rfl

/-! ## Changes of local state -/

theorem State.arriveStandby_spares (s : State) (reason : StateReason) : s.Spares (s.arriveStandby reason) := by
  have hrejoin : (s.arriveStandby reason).Emptied := by
    unfold State.arriveStandby State.rejoin
    split <;> exact ⟨rfl, rfl⟩
  exact .inl hrejoin

theorem State.backToSeeking_spares (s : State) (reason : StateReason) : s.Spares (s.backToSeeking reason) :=
  of_emptied rfl rfl

theorem State.enterDoubt_spares (s : State) (reason : StateReason) : s.Spares (s.enterDoubt reason) :=
  of_emptied rfl rfl

theorem State.enterFaulted_spares (s : State) (reason : StateReason) : s.Spares (s.enterFaulted reason) :=
  of_emptied rfl rfl

theorem State.joinStall_spares (s : State) : s.Spares s.joinStall := by
  unfold State.joinStall
  split
  · exact s.backToSeeking_spares _
  · exact s.arriveStandby_spares _
  all_goals exact refl s

theorem State.countStall_spares (s : State) : s.Spares s.countStall :=
  of_outbox rfl

theorem State.stallStep_spares (s : State) : s.Spares s.stallStep :=
  ite (fun _ => s.countStall_spares.trans (State.joinStall_spares _)) (fun _ => when s.countStall_spares)

theorem State.leaveDissolved_spares (s : State) (before : Roster) : s.Spares (s.leaveDissolved before) := by
  unfold State.leaveDissolved
  refine ite (fun _ => ?_) (fun _ => refl s)
  split
  · exact s.backToSeeking_spares _
  · exact s.arriveStandby_spares _
  all_goals exact refl s

theorem State.evicted_spares (s : State) (reason : Byte) : s.Spares (s.evicted reason) :=
  (State.arriveStandby_spares _ .evicted).from_outbox rfl

/-! ## Owned bits -/

theorem State.ownedMismatch_spares (s : State) : s.Spares s.ownedMismatch := by
  unfold State.ownedMismatch
  refine ite (fun _ => refl s) fun _ => ?_
  exact ite (fun _ => (State.enterFaulted_spares _ _).from_outbox rfl) (fun _ => of_outbox rfl)

theorem State.readBackSlot_spares (s : State) (slots : Slots) : s.Spares (s.readBackSlot slots) := by
  unfold State.readBackSlot
  split
  · exact when (ite (fun _ => of_outbox s.cleanSlot_outbox) (fun _ => s.ownedMismatch_spares))
  · exact refl s

theorem State.readBackVerdict_spares (s : State) (a b : VerdictCopy) : s.Spares (s.readBackVerdict a b) := by
  unfold State.readBackVerdict
  split
  · exact ite (fun _ => of_outbox s.settleRun_outbox) fun _ =>
      ite (fun _ => s.ownedMismatch_spares) fun _ => ite (fun _ => refl s) (fun _ => of_outbox rfl)
  · exact refl s

theorem State.mismatchOwned_spares (s : State) (bit : Fin 512) : s.Spares (s.mismatchOwned bit) :=
  when ((State.ownedMismatch_spares _).from_outbox (s.misreadBit_outbox bit))

/-! ## The cut of a cycle -/

theorem State.cutStall_spares (s : State) : s.Spares s.cutStall :=
  ite (fun _ => refl s) (fun _ => s.stallStep_spares)

theorem State.doubtAtCut_emptied (s : State) : s.doubtAtCut.Emptied :=
  ⟨rfl, rfl⟩

/-! ## The status point -/

/-- The point once made, the readback and the peer watch. -/
theorem State.readStatus_spares (s : State) (slots : Slots) :
    (s.makePoint .status 255).Spares (s.readStatus slots) := by
  refine (State.readBackSlot_spares _ slots).trans (when ?_)
  exact of_outbox (State.countSlots_outbox _ slots)

theorem State.listenStep_spares (s : State) (slots : Slots) : s.Spares (s.listenStep slots) := by
  unfold State.listenStep
  split
  · exact when (ite (fun _ => s.enterFaulted_spares _) (fun _ => of_outbox rfl))
  · exact refl s

theorem State.syncedStep_spares (s : State) (slots : Slots) : s.Spares (s.syncedStep slots) :=
  ite (fun _ => (State.enterDoubt_spares _ _).from_outbox rfl) (fun _ => of_outbox rfl)

theorem State.actOnStatus_spares (s : State) (slots : Slots) : s.Spares (s.actOnStatus slots) := by
  unfold State.actOnStatus
  split
  · exact s.listenStep_spares slots
  · exact of_outbox s.seekStep_outbox
  · exact s.syncedStep_spares slots
  all_goals exact refl s

/-! ## The commands that do not change the local state -/

theorem State.configure_spares (s : State) (address silenceLimit formationWait retryLimit rejoin : Byte) :
    s.Spares (s.configure address silenceLimit formationWait retryLimit rejoin).state := by
  unfold State.configure
  split
  · split <;> exact of_outbox rfl
  · exact refl s

theorem State.writeVeto_spares (s : State) (zone flag : Byte) : s.Spares (s.writeVeto zone flag).state := by
  unfold State.writeVeto
  split <;> exact of_outbox rfl

theorem State.writeWatch_spares (s : State) (zone flag : Byte) : s.Spares (s.writeWatch zone flag).state := by
  unfold State.writeWatch
  split <;> exact of_outbox rfl

theorem State.readZone_spares (s : State) (zone : Byte) : s.Spares (s.readZone zone).state := by
  unfold State.readZone
  split
  · split <;> exact refl s
  · exact refl s

theorem State.readRoster_spares (s : State) : s.Spares s.readRoster.state := by
  unfold State.readRoster
  split <;> exact refl s

theorem State.fetchEvent_spares (s : State) : s.Spares s.fetchEvent.state := by
  unfold State.fetchEvent
  split <;> exact of_outbox rfl

theorem State.ackEvent_spares (s : State) (sequence : Byte) : s.Spares (s.ackEvent sequence).state := by
  unfold State.ackEvent
  split
  · split <;> exact of_outbox rfl
  · exact refl s

/-- The host commands that deal with the send queue or change the local state. -/
def actsOnOutbox (c : HostCommand) : Bool :=
  match c with
  | .start | .stop | .join | .leave | .claim | .renew | .release | .cancel | .note | .recall => true
  | .configure | .veto | .watch | .readZone | .readRoster | .readStation | .fetchEvent | .ackEvent | .reset => false

/-- The other commands leave the send queue and the message in flight, but RESET, which empties both. -/
theorem runCommand_spares {c : HostCommand} (h : actsOnOutbox c = false) (p : List Byte) (s : State) :
    s.Spares (runCommand c p s).state := by
  match c with
  | .configure => exact s.configure_spares _ _ _ _ _
  | .veto => exact s.writeVeto_spares _ _
  | .watch => exact s.writeWatch_spares _ _
  | .readZone => exact s.readZone_spares _
  | .readRoster => exact s.readRoster_spares
  | .readStation => exact refl s
  | .fetchEvent => exact s.fetchEvent_spares
  | .ackEvent => exact s.ackEvent_spares _
  | .reset => exact of_emptied rfl rfl

theorem State.powerReset_spares (s : State) : s.Spares s.powerReset :=
  of_emptied rfl rfl

end Sys2Proof.Machine
end

section
/-! SUPPORT. The form of the send queue and of the own waits list (R147, R155, R157), and what a change of them keeps of
it. -/

namespace Sys2Proof.Machine

/-! ## The form -/

/-- The form of the send queue as a proposition. -/
structure SendQueue.Form (q : SendQueue) : Prop where
  length : q.entries.length ≤ Config.sendQueueCapacity
  tags   : (q.entries.map SendEntry.tag).Nodup
  zones  : (q.ownWaits.map OwnWait.zone).Nodup
  waits  : q.waitCount ≤ Config.waitsCapacity

/-- The form as the model checks it. -/
theorem SendQueue.wf_iff_form (q : SendQueue) : q.wf = true ↔ q.Form := by
  simp only [SendQueue.wf, SendQueue.waitsFit, Bool.and_eq_true, decide_eq_true_eq]
  exact ⟨fun ⟨⟨hlength, htags⟩, hzones, hwaits⟩ => ⟨hlength, htags, hzones, hwaits⟩,
    fun h => ⟨⟨h.length, h.tags⟩, h.zones, h.waits⟩⟩

theorem SendQueue.cleared_form : SendQueue.cleared.Form :=
  ⟨Nat.zero_le _, List.nodup_nil, List.nodup_nil, Nat.zero_le _⟩

/-- A queue with no entry and no own waits is the cleared one. -/
theorem SendQueue.eq_cleared {q : SendQueue} (htags : q.entries.map SendEntry.tag = []) (hwaits : q.waitCount = 0) :
    q = SendQueue.cleared := by
  have hentries : q.entries = [] := List.map_eq_nil_iff.mp htags
  have hown : q.ownWaits = [] := List.length_eq_zero_iff.mp (Nat.eq_zero_of_add_eq_zero_right hwaits)
  cases q
  simp_all [SendQueue.cleared]

/-! ## Changes that keep the form -/

/-- A change that adds no entry, makes no zone wait twice and does not raise the wait count. -/
structure SendQueue.Yields (q q' : SendQueue) : Prop where
  tags  : (q'.entries.map SendEntry.tag).Sublist (q.entries.map SendEntry.tag)
  zones : (q.ownWaits.map OwnWait.zone).Nodup → (q'.ownWaits.map OwnWait.zone).Nodup
  waits : q'.waitCount ≤ q.waitCount

namespace SendQueue.Yields

variable {q q' q'' : SendQueue}

theorem refl (q : SendQueue) : q.Yields q := ⟨.refl _, id, Nat.le_refl _⟩

theorem trans (h : q.Yields q') (h' : q'.Yields q'') : q.Yields q'' :=
  ⟨h'.tags.trans h.tags, h'.zones ∘ h.zones, h'.waits.trans h.waits⟩

theorem form (h : q.Yields q') (hq : q.Form) : q'.Form where
  length := by
    have hle := h.tags.length_le
    simp only [List.length_map] at hle
    exact hle.trans hq.length
  tags := hq.tags.sublist h.tags
  zones := h.zones hq.zones
  waits := h.waits.trans hq.waits

theorem eq_cleared (h : q.Yields q') (hq : q = SendQueue.cleared) : q' = SendQueue.cleared := by
  subst hq
  exact SendQueue.eq_cleared (List.sublist_nil.mp h.tags) (Nat.le_zero.mp h.waits)

/-- Entries leave. -/
theorem of_filter (q : SendQueue) (p : SendEntry → Bool) :
    q.Yields { q with entries := q.entries.filter p } :=
  ⟨List.filter_sublist.map _, id, Nat.add_le_add_left List.filter_sublist.countP_le _⟩

/-- Entries change in their attempts and their state. -/
theorem of_map (q : SendQueue) {f : SendEntry → SendEntry} (htag : ∀ e, (f e).tag = e.tag)
    (hrequest : ∀ e, (f e).request = e.request) : q.Yields { q with entries := q.entries.map f } := by
  refine ⟨?_, id, ?_⟩
  · have hsame : SendEntry.tag ∘ f = SendEntry.tag := funext htag
    rw [List.map_map, hsame]
  · simp only [SendQueue.waitCount, List.countP_map, Function.comp_def, hrequest, Nat.le_refl]

/-- Own waits records leave. -/
theorem of_waits (q : SendQueue) (p : OwnWait → Bool) :
    q.Yields { q with ownWaits := q.ownWaits.filter p } :=
  ⟨.refl _, fun h => h.sublist (List.filter_sublist.map _), Nat.add_le_add_right (List.length_filter_le _ _) _⟩

theorem of_drop (q : SendQueue) (tag : Byte) : q.Yields (q.drop tag) := of_filter q _

theorem of_change (q : SendQueue) (tag : Byte) {f : SendEntry → SendEntry} (htag : ∀ e, (f e).tag = e.tag)
    (hrequest : ∀ e, (f e).request = e.request) : q.Yields (q.change tag f) := by
  refine of_map q (fun e => ?_) (fun e => ?_)
  · split
    · exact htag e
    · rfl
  · split
    · exact hrequest e
    · rfl

end SendQueue.Yields

theorem Source.launch_yields (source : Source) (q : SendQueue) : q.Yields (source.launch q) := by
  cases source with
  | entry tag => exact .of_change q tag (fun _ => rfl) (fun _ => rfl)
  | urgent d | sync d => exact .refl q

/-! ## The end of a queued CLAIM (R155, R156) -/

theorem addWait_nodup {waits : List OwnWait} (h : (waits.map OwnWait.zone).Nodup) (w : OwnWait) :
    ((addWait waits w).map OwnWait.zone).Nodup := by
  have hothers : ((waits.filter fun x => x.zone != w.zone).map OwnWait.zone).Nodup :=
    h.sublist (List.filter_sublist.map _)
  have hnew : w.zone ∉ (waits.filter fun x => x.zone != w.zone).map OwnWait.zone := by simp
  rw [addWait, List.map_append]
  exact hothers.append (List.nodup_singleton _) (List.disjoint_singleton.mpr hnew)

theorem addWait_length_le (waits : List OwnWait) (w : OwnWait) : (addWait waits w).length ≤ waits.length + 1 := by
  rw [addWait, List.length_append]
  exact Nat.add_le_add_right (List.length_filter_le _ _) 1

/-- An entry that leaves takes its own wait flag out of the wait count. -/
theorem SendQueue.drop_waitFlags {q : SendQueue} {tag : Byte} {e : SendEntry} (hfind : q.find tag = some e)
    (hflag : e.request.waitFlag = true) :
    (q.drop tag).entries.countP (fun x => x.request.waitFlag) + 1 ≤
      q.entries.countP (fun x => x.request.waitFlag) := by
  have hgone : 0 < (q.entries.filter fun x => !(x.tag != tag)).countP fun x => x.request.waitFlag :=
    List.countP_pos_iff.mpr ⟨e, List.mem_filter.mpr ⟨List.mem_of_find?_eq_some hfind, by
      simp [SendQueue.find_tag hfind]⟩, hflag⟩
  rw [List.countP_eq_countP_filter_add q.entries _ fun x => x.tag != tag]
  exact Nat.add_le_add_left hgone _

/-- The own waits record of a CLAIM that is queued takes the place of the wait flag of its entry. -/
theorem SendQueue.endCommitted_yields {q : SendQueue} {tag : Byte} {e : SendEntry} (hfind : q.find tag = some e)
    (o : RequestOutcome) :
    q.Yields { q.drop tag with ownWaits := waitsOnOutcome q.ownWaits e o } := by
  have hdrop := SendQueue.Yields.of_drop q tag
  unfold waitsOnOutcome
  split
  case h_1 z m w d hrequest =>
    split
    · exact hdrop
    · rename_i hflag
      have hflag : e.request.waitFlag = true := by
        rw [hrequest]
        exact bne_iff_ne.mpr hflag
      have hlength := addWait_length_le q.ownWaits { zone := z, tag := e.tag, mode := m }
      have hflags := SendQueue.drop_waitFlags hfind hflag
      refine ⟨hdrop.tags, fun h => addWait_nodup h _, ?_⟩
      unfold SendQueue.waitCount
      dsimp only at hflags ⊢
      omega
  case h_2 z _ => exact hdrop.trans (.of_waits _ _)
  case h_3 => exact hdrop

/-! ## A request that joins (R148) -/

theorem SendQueue.join_form {q : SendQueue} {tag : Byte} {r : Request} (h : q.Form)
    (hroom : q.entries.length < Config.sendQueueCapacity) (htag : q.tagInUse tag = false)
    (hwaits : q.waitsFull r = false) : (q.join tag r).Form where
  length := by simpa [SendQueue.join] using hroom
  tags := by
    have hnew : tag ∉ q.entries.map SendEntry.tag := by simpa [SendQueue.tagInUse] using htag
    rw [SendQueue.join, List.map_append]
    exact h.tags.append (List.nodup_singleton _) (List.disjoint_singleton.mpr hnew)
  zones := h.zones
  waits := by
    have hcount : (q.join tag r).waitCount = q.waitCount + if r.waitFlag = true then 1 else 0 := by
      simp [SendQueue.waitCount, SendQueue.join, List.countP_singleton, Nat.add_assoc]
    rw [hcount]
    cases hflag : r.waitFlag with
    | false => exact h.waits
    | true =>
      simp only [SendQueue.waitsFull, hflag, Bool.true_and, decide_eq_false_iff_not] at hwaits
      exact Nat.lt_of_not_le hwaits

/-! ## What keeps the form -/

/-- R147: the form of the send queue, which is cleared but in SYNCED and LEAVING. -/
structure State.QueueForm (s : State) : Prop where
  form : s.sendQueue.Form
  fits : (s.station = .synced ∨ s.station = .leaving) ∨ s.sendQueue = SendQueue.cleared

theorem State.queueForm_iff (s : State) : s.QueueForm ↔ s.sendQueue.wf = true ∧ s.queueFits = true := by
  simp only [State.queueFits, Bool.or_eq_true, beq_iff_eq, SendQueue.wf_iff_form]
  exact ⟨fun h => ⟨h.form, h.fits⟩, fun h => ⟨h.1, h.2⟩⟩

theorem State.queueForm_of_cleared {s : State} (h : s.sendQueue = SendQueue.cleared) : s.QueueForm :=
  ⟨h ▸ SendQueue.cleared_form, .inr h⟩

/-- From one state to the other the form of the send queue is kept. -/
def State.KeepsQueue (s t : State) : Prop :=
  s.QueueForm → t.QueueForm

namespace State.KeepsQueue

variable {s t u : State}

theorem refl (s : State) : s.KeepsQueue s := id

theorem trans (h : s.KeepsQueue t) (h' : t.KeepsQueue u) : s.KeepsQueue u := h' ∘ h

/-- The local state stands, and the queue changes as it may. -/
theorem of_yields (hst : t.station = s.station) (h : s.sendQueue.Yields t.sendQueue) : s.KeepsQueue t :=
  fun hs => ⟨h.form hs.form, hs.fits.imp (fun hin => hst ▸ hin) h.eq_cleared⟩

/-- An operation on the rest of the station. -/
theorem of_same (hst : t.station = s.station) (hq : t.sendQueue = s.sendQueue) : s.KeepsQueue t :=
  of_yields hst (hq ▸ .refl _)

/-- An operation on the rest of the station, and then another. -/
theorem from_same (h : t.KeepsQueue u) (hst : t.station = s.station) (hq : t.sendQueue = s.sendQueue) :
    s.KeepsQueue u :=
  (of_same hst hq).trans h

theorem of_cleared (h : t.sendQueue = SendQueue.cleared) : s.KeepsQueue t :=
  fun _ => State.queueForm_of_cleared h

theorem of_outbox (h : t.outbox = s.outbox) : s.KeepsQueue t :=
  of_same (congrArg Outbox.station h) (congrArg Outbox.queue h)

theorem of_spares (h : s.Spares t) : s.KeepsQueue t := by
  rcases h with ht | hsame
  · exact of_cleared ht.queue
  · exact of_outbox hsame

/-- A change of local state with the queue as it was, from a state in which it is cleared. -/
theorem of_idle (hq : t.sendQueue = s.sendQueue) (hsynced : s.station ≠ .synced) (hleaving : s.station ≠ .leaving) :
    s.KeepsQueue t :=
  fun hs => State.queueForm_of_cleared (hq.trans (hs.fits.resolve_left (not_or.mpr ⟨hsynced, hleaving⟩)))

/-- An operation that takes place on a condition. -/
theorem ite {c : Prop} [Decidable c] (h : c → s.KeepsQueue t) (h' : ¬ c → s.KeepsQueue u) :
    s.KeepsQueue (if c then t else u) := by
  split
  · exact h ‹_›
  · exact h' ‹_›

/-- An operation that takes place on a condition, or not at all. -/
theorem when {c : Prop} [Decidable c] (h : s.KeepsQueue t) : s.KeepsQueue (if c then t else s) :=
  ite (fun _ => h) (fun _ => refl s)

end State.KeepsQueue

end Sys2Proof.Machine
end

section
/-! SUPPORT. The points of the line cycle, the commits and the commands keep the form of the send queue. -/

namespace Sys2Proof.Machine

open State.KeepsQueue

/-! ## Entries and own waits -/

theorem State.endEntry_keepsQueue (s : State) (tag : Byte) (o : RequestOutcome) (position : Option Nat)
    (set : Option StationSet) (commit : Option (BitVec 16)) :
    s.KeepsQueue (s.endEntry tag o position set commit) := by
  unfold State.endEntry
  split
  · exact of_yields rfl (.of_drop _ tag)
  · exact refl s

theorem State.dropFlight_keepsQueue (s : State) : s.KeepsQueue s.dropFlight :=
  of_yields rfl (.of_map _ (fun _ => rfl) (fun _ => rfl))

theorem State.reportZones_keepsQueue (s : State) (before : ZoneTable) (changes : Vector ZoneChange 64) :
    s.KeepsQueue (s.reportZones before changes) := by
  have hyields : s.sendQueue.Yields { s.sendQueue with ownWaits := s.waitsAfter changes } := by
    unfold State.waitsAfter
    split
    · split
      · exact .of_waits _ _
      · exact .refl _
    · exact .refl _
  exact of_yields rfl hyields

/-! ## Cycle marks -/

theorem State.beginCycle_keepsQueue (s : State) : s.KeepsQueue s.beginCycle := by
  have hopen : s.KeepsQueue s.openCycle := of_same rfl rfl
  have hpass : s.openCycle.KeepsQueue s.openCycle.expiryPass :=
    (State.reportZones_keepsQueue _ _ _).from_same rfl rfl
  exact hopen.trans (hpass.trans (of_same rfl rfl))

theorem State.cutCycle_keepsQueue (s : State) (bit : Fin 512) (claimStart : Level) :
    s.KeepsQueue (s.cutCycle bit claimStart) := by
  have hreach : s.KeepsQueue (s.reachCut bit claimStart) := of_same rfl rfl
  have hholds : s.KeepsQueue (s.reachCut bit claimStart).cutHoldOffs :=
    hreach.trans (ite (fun _ => refl _) (fun _ => of_outbox (State.runHoldOffs_outbox _)))
  exact hholds.trans (ite (fun _ => of_cleared (State.doubtAtCut_emptied _).queue) fun _ =>
    (State.dropFlight_keepsQueue _).trans (of_spares (State.cutStall_spares _)))

theorem State.takeMark_keepsQueue (s : State) (m : Mark) : s.KeepsQueue (s.takeMark m) := by
  have hcut (bit : Fin 512) (claimStart : Level) := (s.cutCycle_keepsQueue bit claimStart).trans
    (State.beginCycle_keepsQueue _)
  cases m with
  | timely => exact ite (fun _ => hcut _ _) (fun _ => s.beginCycle_keepsQueue)
  | early bit claimStart => exact ite (fun _ => hcut bit claimStart) (fun _ => s.beginCycle_keepsQueue)

theorem State.loseMark_keepsQueue (s : State) : s.KeepsQueue s.loseMark := by
  unfold State.loseMark
  refine ite (fun _ => refl s) fun _ => ?_
  have hfault : s.KeepsQueue s.countMarkFault := of_same rfl rfl
  have hover := hfault.trans (ite (c := (s.countMarkFault.line.claimActive && s.countMarkFault.canDoubt) = true)
    (fun _ => of_spares (State.enterDoubt_spares _ .markFault)) (fun _ => State.dropFlight_keepsQueue _))
  exact hover.trans (of_same rfl rfl)

/-! ## The points up to the message segment -/

theorem State.takeStatus_keepsQueue (s : State) (slots : Slots) : s.KeepsQueue (s.takeStatus slots) := by
  have hpoint : s.KeepsQueue (s.makePoint .status 255) := of_same rfl rfl
  exact when (hpoint.trans (of_spares ((s.readStatus_spares slots).trans (State.actOnStatus_spares _ slots))))

theorem State.takeSelection_keepsQueue (s : State) : s.KeepsQueue s.takeSelection := by
  have hpoint : s.KeepsQueue (s.makePoint .selection 260) := of_same rfl rfl
  have hduties := hpoint.trans (of_outbox (State.formDuties_outbox _))
  refine when (hduties.trans ?_)
  rcases (s.makePoint .selection 260).formDuties.offerChoice_cases with hnone | ⟨own, source, hoffer⟩
  · rw [hnone]
    exact refl _
  · rw [hoffer]
    exact of_yields rfl (source.launch_yields _)

theorem State.returnEntry_keepsQueue (s : State) (tag : Byte) : s.KeepsQueue (s.returnEntry tag) :=
  ite (fun _ => s.endEntry_keepsQueue _ _ _ _ _)
    (fun _ => of_yields rfl (.of_change _ tag (fun _ => rfl) (fun _ => rfl)))

theorem State.giveUpClaim_keepsQueue (s : State) : s.KeepsQueue s.giveUpClaim := by
  unfold State.giveUpClaim
  split
  · have hdrop : s.KeepsQueue (s.setSelector { s.selector with inFlight := none }) := of_same rfl rfl
    dsimp only
    split
    · exact hdrop.trans (State.returnEntry_keepsQueue _ _)
    · exact hdrop
    · exact hdrop
  · exact refl s

theorem State.loseClaim_keepsQueue (s : State) : s.KeepsQueue s.loseClaim :=
  (State.giveUpClaim_keepsQueue s.countArbitrationLoss).from_same rfl rfl

theorem State.faultClaim_keepsQueue (s : State) : s.KeepsQueue s.faultClaim :=
  (State.giveUpClaim_keepsQueue s.countMismatch).from_same rfl rfl

theorem State.judgeClaim_keepsQueue (s : State) (read : ClaimRead) : s.KeepsQueue (s.judgeClaim read) := by
  unfold State.judgeClaim
  split
  · split
    · exact of_same rfl rfl
    · exact s.loseClaim_keepsQueue
    · exact s.faultClaim_keepsQueue
  · exact refl s

theorem State.takeClaim_keepsQueue (s : State) (read : ClaimRead) : s.KeepsQueue (s.takeClaim read) := by
  have hheld : s.KeepsQueue ((s.makePoint .claim 266).holdClaim read) := of_same rfl rfl
  have hjudged := hheld.trans (State.judgeClaim_keepsQueue _ read)
  exact when (ite (fun _ => hjudged.trans (of_outbox (State.settleRun_outbox _))) (fun _ => hjudged))

theorem State.loseAt_keepsQueue (s : State) (bit : Fin 7) : s.KeepsQueue (s.loseAt bit) := by
  unfold State.loseAt
  split
  · exact when ((State.loseClaim_keepsQueue (s.misreadBit (claimLineBit bit))).from_same rfl rfl)
  · exact refl s

theorem State.faultAt_keepsQueue (s : State) (bit : Fin 7) : s.KeepsQueue (s.faultAt bit) := by
  unfold State.faultAt
  split
  · exact when ((State.faultClaim_keepsQueue (s.misreadBit (claimLineBit bit))).from_same rfl rfl)
  · exact refl s

theorem State.mismatchAt_keepsQueue (s : State) (bit : Fin 160) : s.KeepsQueue (s.mismatchAt bit) := by
  unfold State.mismatchAt
  split
  · exact when (of_same rfl rfl)
  · exact refl s

theorem State.takeMessage_keepsQueue (s : State) (m : MessageBytes) : s.KeepsQueue (s.takeMessage m) := by
  have hpoint : s.KeepsQueue (s.makePoint .message 431) := of_same rfl rfl
  have hread : (s.makePoint .message 431).KeepsQueue ((s.makePoint .message 431).readBackMessage m) := by
    obtain ⟨flight, n, h⟩ := (s.makePoint .message 431).readBackMessage_shape m
    rw [h]
    exact of_same rfl rfl
  exact when (hpoint.trans (ite (fun _ => hread.trans (of_outbox
    ((State.takeStance_outbox _ m _).trans (State.receive_outbox _ m)))) (fun _ => refl _)))

/-! ## Commits -/

theorem State.senderCommitted_keepsQueue (s : State) (before : ZoneTable) (sender : Addr) (b : Body) :
    s.KeepsQueue (s.senderCommitted before sender b) := by
  have hentry (tag : Byte) (o : ZoneOutcome) : s.KeepsQueue (s.endCommitted tag o) := by
    unfold State.endCommitted
    split
    · exact of_yields rfl (SendQueue.endCommitted_yields ‹_› _)
    · exact refl s
  unfold State.senderCommitted
  split
  · split
    · split
      · exact hentry _ _
      · exact refl s
      · exact of_outbox (s.endDuty_outbox _)
      · exact of_outbox (s.endDuty_outbox _)
    · exact refl s
  · exact refl s

theorem State.commitRoster_keepsQueue (s : State) (sender : Addr) (b : Body) :
    s.KeepsQueue (s.commitRoster sender b) :=
  of_same rfl rfl

theorem State.applyMessage_keepsQueue (s : State) (sender : Addr) (b : Body) :
    s.KeepsQueue (s.applyMessage sender b) := by
  have hzones : (s.commitRoster sender b).KeepsQueue ((s.commitRoster sender b).setZones
      (changedEntries (s.zoneChanges (zoneEffect s.roster sender b)))) := of_same rfl rfl
  exact (s.commitRoster_keepsQueue sender b).trans (hzones.trans
    ((State.senderCommitted_keepsQueue _ s.zones sender b).trans
      ((State.reportZones_keepsQueue _ _ _).trans (of_outbox (State.deliver_outbox _ sender b)))))

theorem State.completeTransfer_keepsQueue (s : State) : s.KeepsQueue s.completeTransfer := by
  unfold State.completeTransfer
  refine ite (fun _ => ?_) (fun _ => refl s)
  split
  · exact of_cleared rfl
  · exact of_same rfl rfl
  all_goals exact refl s

theorem State.nextBlock_keepsQueue (s : State) (sender : Addr) (index : Nat) (content : List Byte) :
    s.KeepsQueue (s.nextBlock sender index content) := by
  have hload : s.KeepsQueue (s.loadZone index content) := of_outbox (s.loadZone_outbox index content)
  have hroster : (s.loadZone index content).KeepsQueue
      (((s.loadZone index content).setSnapshot
        { (s.loadZone index content).snapshot with loaded := index + 1 }).commitRoster sender
        (.snap (natByte index) content)) := of_same rfl rfl
  exact hload.trans (hroster.trans (State.completeTransfer_keepsQueue _))

theorem State.joinerSnap_keepsQueue (s : State) (sender : Addr) (index : Nat) (content : List Byte) :
    s.KeepsQueue (s.joinerSnap sender index content) := by
  have hblock : s.KeepsQueue (s.loadRoster content) := of_outbox (s.loadRoster_outbox content)
  have hgap : s.KeepsQueue (s.enterDoubt .snapshotGap) := of_spares (s.enterDoubt_spares _)
  refine ite (fun _ => ite (fun _ => ?own) (fun _ => ?other)) (fun _ => ?noRoster)
  case own =>
    refine ite (fun _ => s.nextBlock_keepsQueue sender index content) fun _ =>
      ite (fun _ => ?repeated) (fun _ => hgap)
    exact ite (fun _ => hblock) (fun _ => of_outbox (s.loadZone_outbox index content))
  case other =>
    exact ite (fun _ => s.commitRoster_keepsQueue sender _) fun _ => ite (fun _ => hblock) (fun _ => hgap)
  case noRoster =>
    unfold State.firstBlock
    split
    · exact when hblock
    · exact refl s

theorem State.plainCommit_keepsQueue (s : State) (sender : Addr) (b : Body) :
    s.KeepsQueue (s.plainCommit sender b) :=
  ite (fun _ => when ((s.applyMessage_keepsQueue sender b).trans (of_spares (State.leaveDissolved_spares _ _))))
    (fun _ => s.applyMessage_keepsQueue sender b)

theorem State.clusterCommit_keepsQueue (s : State) (sender : Addr) (b : Body) :
    s.KeepsQueue (s.clusterCommit sender b) := by
  unfold State.clusterCommit
  split
  · exact refl s
  · exact ite (fun _ => of_spares (s.arriveStandby_spares _)) (fun _ => s.plainCommit_keepsQueue sender _)
  · exact ite (fun _ => of_spares (s.evicted_spares _)) (fun _ => s.plainCommit_keepsQueue sender _)
  · exact ite (fun _ => s.joinerSnap_keepsQueue sender _ _) (fun _ => s.applyMessage_keepsQueue sender _)
  all_goals exact s.plainCommit_keepsQueue sender _

theorem State.doubtCommit_keepsQueue (s : State) (sender : Addr) (b : Body) :
    s.KeepsQueue (s.doubtCommit sender b) := by
  unfold State.doubtCommit
  split
  · exact when (of_spares (s.arriveStandby_spares _))
  · exact when (of_spares (s.evicted_spares _))
  all_goals exact refl s

/-- R103: from SEEKING, where the queue is cleared. -/
theorem State.seekingCommit_keepsQueue {s : State} (hst : s.station = .seeking) (b : Body) :
    s.KeepsQueue (s.seekingCommit b) := by
  unfold State.seekingCommit
  split
  · exact of_cleared rfl
  · exact of_idle rfl (by simp [hst]) (by simp [hst])
  · exact refl s

theorem State.intactCommit_keepsQueue (s : State) (sender : Addr) (b : Body) :
    s.KeepsQueue (s.intactCommit sender b) := by
  unfold State.intactCommit
  split
  case h_1 hst => exact State.seekingCommit_keepsQueue hst b
  case h_2 => exact s.doubtCommit_keepsQueue sender b
  case h_3 | h_4 | h_5 => exact s.clusterCommit_keepsQueue sender b
  all_goals exact refl s

theorem State.damagedCommit_keepsQueue (s : State) : s.KeepsQueue s.damagedCommit := by
  unfold State.damagedCommit
  split
  · exact of_cleared rfl
  · exact when (of_spares (s.arriveStandby_spares _))
  · exact when (of_spares (s.enterDoubt_spares _))

theorem State.onCommitted_keepsQueue (s : State) : s.KeepsQueue s.onCommitted := by
  have hcount : s.KeepsQueue s.countCommit := of_same rfl rfl
  unfold State.onCommitted
  split
  · exact hcount.trans (State.intactCommit_keepsQueue _ _ _)
  · exact hcount.trans (State.damagedCommit_keepsQueue _)

/-! ## The verdict point -/

theorem State.reachVerdict_keepsQueue (s : State) (a b : VerdictCopy) : s.KeepsQueue (s.reachVerdict a b) := by
  have hpoint : s.KeepsQueue (s.makePoint .verdict 499) := of_same rfl rfl
  have hcopies : s.KeepsQueue (s.copiesRead a b) := hpoint.trans (when (of_same rfl rfl))
  have hread : s.KeepsQueue (s.readVerdict a b) :=
    hcopies.trans (of_spares (State.readBackVerdict_spares _ a b))
  exact hread.trans (of_outbox ((State.clearServed_outbox _).trans
    ((State.runHoldOffs_outbox _).trans (State.compareCopies_outbox _ a b))))

theorem State.onObjected_keepsQueue (s : State) (source : Source) (set : StationSet) :
    s.KeepsQueue (s.onObjected source set) := by
  unfold State.onObjected
  split
  · exact s.endEntry_keepsQueue _ _ _ _ _
  · exact of_spares (s.arriveStandby_spares _)
  all_goals exact of_same rfl rfl

theorem State.countAttempt_keepsQueue (s : State) (tag : Byte) (set : StationSet) :
    s.KeepsQueue (s.countAttempt tag set) := by
  unfold State.countAttempt
  split
  · exact ite (fun _ => s.endEntry_keepsQueue _ _ _ _ _) fun _ =>
      ite (fun _ => s.endEntry_keepsQueue _ _ _ _ _) fun _ =>
        of_yields rfl (.of_change _ tag (fun _ => rfl) (fun _ => rfl))
  · exact refl s

theorem State.onNotCommitted_keepsQueue (s : State) (a b : VerdictCopy) :
    s.KeepsQueue (s.onNotCommitted a b) := by
  have hlacking (source : Source) (set : StationSet) : s.KeepsQueue (s.onLacking source set) := by
    cases source with
    | entry tag => exact s.countAttempt_keepsQueue tag set
    | urgent d | sync d => exact refl s
  unfold State.onNotCommitted
  split
  · exact ite (fun _ => hlacking _ _) (fun _ => s.onObjected_keepsQueue _ _)
  · exact refl s

theorem State.judge_keepsQueue (s : State) (a b : VerdictCopy) : s.KeepsQueue (s.judge a b) := by
  unfold State.judge
  split
  · exact s.onCommitted_keepsQueue
  · exact s.onNotCommitted_keepsQueue a b
  · exact when (of_spares (s.enterDoubt_spares _))
  · exact refl s

theorem State.updateStall_keepsQueue (s before : State) (a b : VerdictCopy) :
    s.KeepsQueue (s.updateStall before a b) :=
  when (ite (fun _ => of_same rfl rfl) fun _ =>
    ite (fun _ => of_spares s.stallStep_spares) (fun _ => of_spares s.countStall_spares))

theorem State.takeVerdict_keepsQueue (s : State) (a b : VerdictCopy) : s.KeepsQueue (s.takeVerdict a b) :=
  when ((s.reachVerdict_keepsQueue a b).trans ((State.judge_keepsQueue _ a b).trans
    ((State.updateStall_keepsQueue _ _ a b).trans (State.dropFlight_keepsQueue _))))

/-! ## The host commands -/

theorem State.startStation_keepsQueue (s : State) : s.KeepsQueue s.startStation.state := by
  unfold State.startStation
  split
  · rename_i h
    exact of_idle (t := s.startListening) rfl (by simp [h.1]) (by simp [h.1])
  · exact refl s

theorem State.stopStation_keepsQueue (s : State) : s.KeepsQueue s.stopStation.state := by
  unfold State.stopStation
  split
  · rename_i h
    exact of_idle (t := s.goOffline) rfl (by rintro hs; simp [hs] at h) (by rintro hs; simp [hs] at h)
  · exact refl s

theorem State.joinStation_keepsQueue (s : State) : s.KeepsQueue s.joinStation.state := by
  unfold State.joinStation
  split
  · rename_i h
    exact of_idle (t := (s.changeStation .seeking .command s.heldZones).beginSeeking) rfl (by simp [h.1])
      (by simp [h.1])
  · exact refl s

/-- R107: in LEAVING the queue stands, without the entries withdrawn. -/
theorem State.beginLeaving_keepsQueue (s : State) : s.KeepsQueue s.beginLeaving := fun hs =>
  ⟨(SendQueue.Yields.of_filter s.sendQueue SendEntry.flying).form hs.form, .inl (.inr rfl)⟩

theorem State.leaveCluster_keepsQueue (s : State) : s.KeepsQueue s.leaveCluster.state := by
  unfold State.leaveCluster
  split
  · split
    · exact refl s
    · exact of_spares (s.arriveStandby_spares _)
  · exact s.beginLeaving_keepsQueue
  · exact s.beginLeaving_keepsQueue
  all_goals exact refl s

/-- R148: the checks passed leave room for the entry, its tag and its wait flag. -/
theorem State.takeRequest_keepsQueue (s : State) (tag : Byte) (request : Option Request) :
    s.KeepsQueue (s.takeRequest tag request).state := by
  unfold State.takeRequest
  split
  case isFalse => exact refl s
  case isTrue hst =>
    split
    · exact refl s
    split
    · exact refl s
    split
    · exact refl s
    split
    · exact refl s
    split
    · exact refl s
    · rename_i hroom htag _ hwaits
      exact fun hs => ⟨SendQueue.join_form hs.form (Nat.lt_of_not_le hroom) (Bool.eq_false_iff.mpr htag)
        (Bool.eq_false_iff.mpr hwaits), .inl (.inl hst)⟩

theorem State.recall_keepsQueue (s : State) (tag : Byte) : s.KeepsQueue (s.recall tag).state := by
  unfold State.recall
  split
  · split
    · exact of_yields rfl (.of_drop _ tag)
    · exact refl s
  · exact refl s

theorem runCommand_keepsQueue (c : HostCommand) (p : List Byte) (s : State) :
    s.KeepsQueue (runCommand c p s).state := by
  match c with
  | .start => exact s.startStation_keepsQueue
  | .stop => exact s.stopStation_keepsQueue
  | .join => exact s.joinStation_keepsQueue
  | .leave => exact s.leaveCluster_keepsQueue
  | .claim | .renew | .release | .cancel | .note => exact s.takeRequest_keepsQueue _ _
  | .recall => exact s.recall_keepsQueue _
  | .configure | .veto | .watch | .readZone | .readRoster | .readStation | .fetchEvent | .ackEvent | .reset =>
    exact of_spares (runCommand_spares rfl p s)

/-! ## The moves and the step -/

theorem State.Move.keepsQueue {s t : State} (h : s.Move t) : s.KeepsQueue t := by
  cases h with
  | pending queue => exact of_same rfl rfl
  | port p => exact of_same rfl rfl
  | hardwareReset => exact of_spares s.powerReset_spares
  | command c params => exact runCommand_keepsQueue c params s
  | mark m => exact s.takeMark_keepsQueue m
  | lostMark => exact s.loseMark_keepsQueue
  | status slots => exact s.takeStatus_keepsQueue slots
  | selection => exact s.takeSelection_keepsQueue
  | arbitrationLoss bit => exact s.loseAt_keepsQueue bit
  | claimFault bit => exact s.faultAt_keepsQueue bit
  | claim read => exact s.takeClaim_keepsQueue read
  | messageMismatch bit => exact s.mismatchAt_keepsQueue bit
  | message m => exact s.takeMessage_keepsQueue m
  | ownedMismatch bit => exact of_spares (s.mismatchOwned_spares bit)
  | verdict a b => exact s.takeVerdict_keepsQueue a b
  | position p hp => exact of_same rfl rfl

theorem step_keepsQueue {s t : State} (h : step s = .next t) : s.KeepsQueue t :=
  step_of_moves State.KeepsQueue.refl State.KeepsQueue.trans State.Move.keepsQueue h

end Sys2Proof.Machine
end

section
/-! SUPPORT. The message in flight and the entry in flight (R121, R126, R133): their form, what keeps it, and the state
with nothing in flight, from which a selection point puts a message in flight. -/

namespace Sys2Proof.Machine

/-! ## The form -/

/-- An entry in flight is the one the message in flight names (R126), and a message is in flight only in a claimed
cycle, from a selection point on and before the verdict point (R121, R133). -/
structure Outbox.FlightForm (x : Outbox) : Prop where
  entries : ∀ e ∈ x.queue.entries, e.state = .waiting ∨ ∃ f, x.flight = some f ∧ f.source = .entry e.tag
  claimed : x.flight ≠ none → x.claimActive = true
  onBit   : x.flight ≠ none → x.onBit = true
  begun   : x.flight ≠ none → CyclePoint.selection.rank ≤ x.point.rank
  before  : x.flight ≠ none → x.point.rank < CyclePoint.verdict.rank

/-- Nothing in flight. -/
structure Outbox.Grounded (x : Outbox) : Prop where
  entries : ∀ e ∈ x.queue.entries, e.state = .waiting
  flight  : x.flight = none

/-- The form as the model checks it. -/
theorem State.flightForm_iff (s : State) : s.outbox.FlightForm ↔ s.flightFits = true := by
  have hentries : s.entriesFly = true ↔ ∀ e ∈ s.sendQueue.entries,
      e.state = .waiting ∨ ∃ f, s.selector.inFlight = some f ∧ f.source = .entry e.tag := by
    simp only [State.entriesFly, List.all_eq_true, Bool.or_eq_true, beq_iff_eq]
    cases s.selector.inFlight <;> simp
  have hcycle : s.flightInCycle = true ↔ (s.selector.inFlight ≠ none →
      s.line.claimActive = true ∧ s.line.position.isBit = true
      ∧ CyclePoint.selection.rank ≤ s.line.point.rank ∧ s.line.point.rank < CyclePoint.verdict.rank) := by
    simp only [State.flightInCycle, Bool.or_eq_true, Bool.and_eq_true, decide_eq_true_eq, Option.isNone_iff_eq_none,
      and_assoc]
    exact or_iff_not_imp_left
  rw [State.flightFits, Bool.and_eq_true, hentries, hcycle]
  constructor
  · intro h
    exact ⟨h.entries, fun hf => ⟨h.claimed hf, h.onBit hf, h.begun hf, h.before hf⟩⟩
  · rintro ⟨he, hf⟩
    exact ⟨he, fun h => (hf h).1, fun h => (hf h).2.1, fun h => (hf h).2.2.1, fun h => (hf h).2.2.2⟩

namespace Outbox

variable {x : Outbox}

theorem Grounded.flightForm (h : x.Grounded) : x.FlightForm where
  entries e he := .inl (h.entries e he)
  claimed hf := absurd h.flight hf
  onBit hf := absurd h.flight hf
  begun hf := absurd h.flight hf
  before hf := absurd h.flight hf

theorem FlightForm.grounded (h : x.FlightForm) (hf : x.flight = none) : x.Grounded where
  entries e he := (h.entries e he).resolve_right fun ⟨f, hflight, _⟩ => by simp [hf] at hflight
  flight := hf

/-- Beside the one entry that the message in flight names every entry waits. -/
theorem FlightForm.waiting (h : x.FlightForm) {m : InFlight} (hm : x.flight = some m) {e : SendEntry}
    (he : e ∈ x.queue.entries) (hne : m.source ≠ .entry e.tag) : e.state = .waiting :=
  (h.entries e he).resolve_right fun ⟨f, hflight, hsource⟩ => by
    obtain rfl : f = m := Option.some.inj (hflight.symm.trans hm)
    exact hne hsource

/-- Entries in flight leave or wait again, and entries that wait may come. -/
theorem FlightForm.of_entries (h : x.FlightForm) {q : SendQueue}
    (hq : ∀ e ∈ q.entries, e ∈ x.queue.entries ∨ e.state = .waiting) :
    ({ x with queue := q } : Outbox).FlightForm :=
  { h with entries := fun e he => (hq e he).elim (h.entries e) .inl }

/-- The message in flight changes, but not its source. -/
theorem FlightForm.of_flight (h : x.FlightForm) {m m' : InFlight} (hm : x.flight = some m)
    (hsource : m'.source = m.source) : ({ x with flight := some m' } : Outbox).FlightForm := by
  have hsome : x.flight ≠ none := by simp [hm]
  refine ⟨fun e he => (h.entries e he).imp_right ?_, fun _ => h.claimed hsome, fun _ => h.onBit hsome,
    fun _ => h.begun hsome, fun _ => h.before hsome⟩
  rintro ⟨f, hflight, hf⟩
  obtain rfl : f = m := Option.some.inj (hflight.symm.trans hm)
  exact ⟨m', rfl, hsource.trans hf⟩

/-- A point between the selection point and the verdict point is made. -/
theorem FlightForm.of_point (h : x.FlightForm) {p : CyclePoint} (hbegun : CyclePoint.selection.rank ≤ p.rank)
    (hbefore : p.rank < CyclePoint.verdict.rank) : ({ x with point := p } : Outbox).FlightForm :=
  { h with begun := fun _ => hbegun, before := fun _ => hbefore }

theorem FlightForm.of_claimActive (h : x.FlightForm) (c : Bool) :
    ({ x with claimActive := x.claimActive || c } : Outbox).FlightForm :=
  { h with claimed := fun hf => by simp [h.claimed hf] }

theorem FlightForm.of_station (h : x.FlightForm) (st : StationState) :
    ({ x with station := st } : Outbox).FlightForm :=
  { h with }

theorem FlightForm.of_onBit (h : x.FlightForm) {b : Bool} (hb : x.flight ≠ none → b = true) :
    ({ x with onBit := b } : Outbox).FlightForm :=
  { h with onBit := hb }

end Outbox

/-! ## What keeps the form -/

namespace State

variable {s t : State}

theorem Emptied.grounded (h : t.Emptied) : t.outbox.Grounded where
  entries e he := by
    have hnil : t.sendQueue.entries = [] := congrArg SendQueue.entries h.queue
    exact absurd (hnil ▸ he) List.not_mem_nil
  flight := h.flight

theorem Spares.grounded (h : s.Spares t) (hs : s.outbox.Grounded) : t.outbox.Grounded := by
  rcases h with ht | hsame
  · exact ht.grounded
  · exact hsame ▸ hs

theorem Spares.flightForm (h : s.Spares t) (hs : s.outbox.FlightForm) : t.outbox.FlightForm := by
  rcases h with ht | hsame
  · exact ht.grounded.flightForm
  · exact hsame ▸ hs

/-- An operation on the rest of the station. -/
theorem grounded_of_same (h : s.outbox.Grounded) (hq : t.sendQueue.entries = s.sendQueue.entries)
    (hf : t.selector.inFlight = s.selector.inFlight) : t.outbox.Grounded :=
  ⟨fun e he => h.entries e (hq ▸ he), hf.trans h.flight⟩

end State

/-! ## The cycle mark -/

theorem State.dropFlight_grounded (s : State) : s.dropFlight.outbox.Grounded where
  entries e he := by
    obtain ⟨x, -, rfl⟩ := List.mem_map.mp he
    rfl
  flight := rfl

/-- The cut of a cycle ends the flight of its message (R112, R131). -/
theorem State.cutCycle_grounded (s : State) (bit : Fin 512) (claimStart : Level) :
    (s.cutCycle bit claimStart).outbox.Grounded := by
  unfold State.cutCycle
  dsimp only
  split
  · exact (State.doubtAtCut_emptied _).grounded
  · exact (State.cutStall_spares _).grounded (State.dropFlight_grounded _)

theorem State.beginCycle_grounded {s : State} (h : s.outbox.Grounded) : s.beginCycle.outbox.Grounded :=
  State.grounded_of_same h rfl rfl

/-- By the station's own count a mark is timely where nothing can be in flight. -/
theorem State.grounded_of_timely {s : State} (h : s.outbox.FlightForm)
    (htimely : ¬ s.markIsEarly = true ∨ ¬ s.claimUnjudged = true) : s.outbox.Grounded := by
  refine h.grounded (by_contra fun hf => ?_)
  have hbit : s.line.position.isBit = true := h.onBit hf
  have hearly : s.markIsEarly = true := by
    unfold State.markIsEarly
    unfold CyclePosition.isBit at hbit
    split at hbit <;> simp_all
  have hunjudged : s.claimUnjudged = true := by
    have hclaim : s.line.claimActive = true := h.claimed hf
    have hpoint : s.line.point ≠ .verdict := fun hv => by
      have hbefore : s.line.point.rank < CyclePoint.verdict.rank := h.before hf
      simp [hv] at hbefore
    simp [State.claimUnjudged, hearly, hclaim, hpoint]
  exact htimely.elim (· hearly) (· hunjudged)

theorem State.takeMark_grounded {s : State} (h : s.outbox.FlightForm) (m : Mark) :
    (s.takeMark m).outbox.Grounded := by
  have hcut (bit : Fin 512) (claimStart : Level) := State.beginCycle_grounded (s.cutCycle_grounded bit claimStart)
  cases m with
  | timely =>
    show s.takeTimelyMark.outbox.Grounded
    unfold State.takeTimelyMark
    split
    · exact hcut _ _
    · exact State.beginCycle_grounded (State.grounded_of_timely h (.inr ‹_›))
  | early bit claimStart =>
    show (s.takeEarlyMark bit claimStart).outbox.Grounded
    unfold State.takeEarlyMark
    split
    · exact hcut _ _
    · exact State.beginCycle_grounded (State.grounded_of_timely h (.inl ‹_›))

theorem State.loseMark_flightForm {s : State} (h : s.outbox.FlightForm) : s.loseMark.outbox.FlightForm := by
  unfold State.loseMark
  split
  · exact h
  · have hover : (if s.countMarkFault.line.claimActive && s.countMarkFault.canDoubt then
        s.countMarkFault.enterDoubt .markFault else s.countMarkFault.dropFlight).outbox.Grounded := by
      split
      · exact State.Emptied.grounded ⟨rfl, rfl⟩
      · exact State.dropFlight_grounded _
    exact Outbox.Grounded.flightForm (State.grounded_of_same hover rfl rfl)

/-! ## The points of the cycle -/

/-- Before the selection point nothing is in flight. -/
theorem State.grounded_of_canMake {s : State} (h : s.outbox.FlightForm) {p : CyclePoint} (hcan : s.canMake p = true)
    (hp : p.rank ≤ CyclePoint.selection.rank) : s.outbox.Grounded := by
  refine h.grounded (by_contra fun hf => ?_)
  have hbefore : s.line.point.rank < p.rank := of_decide_eq_true (Bool.and_eq_true_iff.mp hcan).2
  exact absurd (h.begun hf) (Nat.not_le_of_lt (hbefore.trans_le hp))

theorem State.onBit_of_canMake {s : State} {p : CyclePoint} (hcan : s.canMake p = true) :
    s.line.position.isBit = true :=
  (Bool.and_eq_true_iff.mp hcan).1

theorem State.takeStatus_flightForm {s : State} (h : s.outbox.FlightForm) (slots : Slots) :
    (s.takeStatus slots).outbox.FlightForm := by
  unfold State.takeStatus
  split
  · have hs := State.grounded_of_canMake h ‹_› (by decide)
    have hpoint : (s.makePoint .status 255).outbox.Grounded := State.grounded_of_same hs rfl rfl
    exact (((s.readStatus_spares slots).trans (State.actOnStatus_spares _ slots)).grounded hpoint).flightForm
  · exact h

/-- R121, R126: the message offered flies with the entry it came from, if it came from one. -/
theorem State.offer_flightForm {s : State} (h : s.outbox.Grounded) (hbit : s.line.position.isBit = true)
    (hpoint : s.line.point = .selection) (own : Addr) (source : Source) :
    (s.offer own source).outbox.FlightForm := by
  have hrank : s.line.point.rank = CyclePoint.selection.rank := congrArg CyclePoint.rank hpoint
  refine ⟨fun e he => ?_, fun _ => rfl, fun _ => hbit, fun _ => hrank.ge, fun _ => hrank ▸ by decide⟩
  cases source with
  | urgent d | sync d => exact .inl (h.entries e he)
  | entry tag =>
    obtain ⟨x, hx, rfl⟩ := List.mem_map.mp he
    dsimp only
    split
    · exact .inr ⟨_, rfl, congrArg Source.entry (Eq.symm ‹_›)⟩
    · exact .inl (h.entries x hx)

theorem State.takeSelection_flightForm {s : State} (h : s.outbox.FlightForm) :
    s.takeSelection.outbox.FlightForm := by
  unfold State.takeSelection
  split
  · rename_i hcan
    have hs : (s.makePoint .selection 260).outbox.Grounded :=
      State.grounded_of_same (State.grounded_of_canMake h hcan (Nat.le_refl _)) rfl rfl
    have hbox := (State.formDuties_outbox (s.makePoint .selection 260)).trans (s.makePoint_outbox .selection 260)
    have hformed : (s.makePoint .selection 260).formDuties.outbox.Grounded := (State.formDuties_outbox _).symm ▸ hs
    rcases (s.makePoint .selection 260).formDuties.offerChoice_cases with hnone | ⟨own, source, hoffer⟩
    · rw [hnone]
      exact hformed.flightForm
    · rw [hoffer]
      exact State.offer_flightForm hformed ((congrArg Outbox.onBit hbox).trans (State.onBit_of_canMake hcan))
        (congrArg Outbox.point hbox) own source
  · exact h

/-! ## The claim segment -/

/-- R124: the entries of the tag wait again or leave. -/
theorem State.returnEntry_grounded {s : State} {tag : Byte} (hflight : s.selector.inFlight = none)
    (h : ∀ e ∈ s.sendQueue.entries, e.tag ≠ tag → e.state = .waiting) : (s.returnEntry tag).outbox.Grounded := by
  unfold State.returnEntry
  split
  · unfold State.endEntry
    split
    · exact ⟨fun e he => h e (List.mem_filter.mp he).1 (bne_iff_ne.mp (List.mem_filter.mp he).2), hflight⟩
    · rename_i hfind
      have hnone : ∀ e ∈ s.sendQueue.entries, e.tag ≠ tag := by simpa [SendQueue.find] using hfind
      exact ⟨fun e he => h e he (hnone e he), hflight⟩
  · refine ⟨fun e he => ?_, hflight⟩
    obtain ⟨x, hx, rfl⟩ := List.mem_map.mp he
    dsimp only
    split
    · rfl
    · exact h x hx ‹_›

theorem State.giveUpClaim_grounded {s : State} (h : s.outbox.FlightForm) : s.giveUpClaim.outbox.Grounded := by
  cases hflight : s.selector.inFlight with
  | none =>
    have hstands : s.giveUpClaim = s := by simp only [State.giveUpClaim, hflight]
    rw [hstands]
    exact h.grounded hflight
  | some m =>
    cases hsource : m.source with
    | entry tag =>
      rw [State.giveUpClaim_of_entry hflight hsource]
      refine State.returnEntry_grounded rfl fun e he hne => h.waiting hflight he ?_
      rw [hsource]
      exact fun heq => hne (Source.entry.inj heq).symm
    | urgent d | sync d =>
      rw [State.giveUpClaim_of_duty hflight (by simp [hsource])]
      exact ⟨fun e he => h.waiting hflight he (by simp [hsource]), rfl⟩

theorem State.loseClaim_flightForm {s : State} (h : s.outbox.FlightForm) : s.loseClaim.outbox.FlightForm :=
  (State.giveUpClaim_grounded (s := s.countArbitrationLoss) h).flightForm

theorem State.faultClaim_flightForm {s : State} (h : s.outbox.FlightForm) : s.faultClaim.outbox.FlightForm :=
  (State.giveUpClaim_grounded (s := s.countMismatch) h).flightForm

theorem State.judgeClaim_flightForm {s : State} (h : s.outbox.FlightForm) (read : ClaimRead) :
    (s.judgeClaim read).outbox.FlightForm := by
  unfold State.judgeClaim
  split
  · rename_i m own hm _
    split
    · exact h.of_flight (m' := { m with claim := .won }) (State.contending_some hm).1 rfl
    · exact State.loseClaim_flightForm h
    · exact State.faultClaim_flightForm h
  · exact h

theorem State.makePoint_flightForm {s : State} (h : s.outbox.FlightForm) {p : CyclePoint}
    (hbegun : CyclePoint.selection.rank ≤ p.rank) (hbefore : p.rank < CyclePoint.verdict.rank) (bit : Fin 512) :
    (s.makePoint p bit).outbox.FlightForm :=
  s.makePoint_outbox p bit ▸ h.of_point hbegun hbefore

theorem State.takeClaim_flightForm {s : State} (h : s.outbox.FlightForm) (read : ClaimRead) :
    (s.takeClaim read).outbox.FlightForm := by
  have hpoint := State.makePoint_flightForm h (p := .claim) (by decide) (by decide) 266
  have hheld : ((s.makePoint .claim 266).holdClaim read).outbox.FlightForm := hpoint.of_claimActive _
  have hjudged := State.judgeClaim_flightForm hheld read
  unfold State.takeClaim
  split
  · dsimp only
    split
    · exact (State.settleRun_outbox _).symm ▸ hjudged
    · exact hjudged
  · exact h

theorem State.misreadBit_flightForm {s : State} (h : s.outbox.FlightForm) (bit : Fin 512) :
    (s.misreadBit bit).outbox.FlightForm :=
  (s.misreadBit_outbox bit).symm ▸ h

theorem State.loseAt_flightForm {s : State} (h : s.outbox.FlightForm) (bit : Fin 7) :
    (s.loseAt bit).outbox.FlightForm := by
  have hmisread := State.misreadBit_flightForm h (claimLineBit bit)
  unfold State.loseAt
  split
  · split
    · exact State.loseClaim_flightForm hmisread
    · exact h
  · exact h

theorem State.faultAt_flightForm {s : State} (h : s.outbox.FlightForm) (bit : Fin 7) :
    (s.faultAt bit).outbox.FlightForm := by
  have hmisread := State.misreadBit_flightForm h (claimLineBit bit)
  unfold State.faultAt
  split
  · split
    · exact State.faultClaim_flightForm hmisread
    · exact h
  · exact h

/-! ## The message segment -/

theorem State.mismatchMessage_flightForm {s : State} (h : s.outbox.FlightForm) {m : InFlight}
    (hm : s.selector.inFlight = some m) (bit : Fin 160) : (s.mismatchMessage m bit).outbox.FlightForm :=
  h.of_flight (m' := { m with mismatchFrom := some bit }) hm rfl

theorem State.mismatchAt_flightForm {s : State} (h : s.outbox.FlightForm) (bit : Fin 160) :
    (s.mismatchAt bit).outbox.FlightForm := by
  unfold State.mismatchAt
  split
  · rename_i m hm
    obtain ⟨hflight, -, -⟩ := State.cleanSender_some hm
    split
    · exact State.mismatchMessage_flightForm (State.misreadBit_flightForm h _) hflight bit
    · exact h
  · exact h

theorem State.takeMessage_flightForm {s : State} (h : s.outbox.FlightForm) (m : MessageBytes) :
    (s.takeMessage m).outbox.FlightForm := by
  have hpoint := State.makePoint_flightForm h (p := .message) (by decide) (by decide) 431
  have hread : ((s.makePoint .message 431).readBackMessage m).outbox.FlightForm := by
    unfold State.readBackMessage
    split
    · rename_i f hf
      obtain ⟨hflight, -, -⟩ := State.cleanSender_some hf
      split
      · exact State.mismatchMessage_flightForm hpoint hflight _
      · exact hpoint
    · exact hpoint
  unfold State.takeMessage
  split
  · dsimp only
    split
    · exact ((State.takeStance_outbox _ m _).trans (State.receive_outbox _ m)).symm ▸ hread
    · exact hpoint
  · exact h

/-! ## The verdict point -/

/-- R127, R131: the verdict point ends the flight of the message. -/
theorem State.takeVerdict_grounded {s : State} (hcan : s.canMake .verdict = true) (a b : VerdictCopy) :
    (s.takeVerdict a b).outbox.Grounded := by
  rw [State.takeVerdict, if_pos hcan]
  exact State.dropFlight_grounded _

theorem State.takeVerdict_flightForm {s : State} (h : s.outbox.FlightForm) (a b : VerdictCopy) :
    (s.takeVerdict a b).outbox.FlightForm := by
  cases hcan : s.canMake .verdict with
  | true => exact (State.takeVerdict_grounded hcan a b).flightForm
  | false =>
    rw [s.takeVerdict_of_not a b hcan]
    exact h

/-! ## The host commands -/

theorem State.startStation_flightForm {s : State} (h : s.outbox.FlightForm) :
    s.startStation.state.outbox.FlightForm := by
  unfold State.startStation
  split
  · exact h.of_station .standby
  · exact h

theorem State.stopStation_flightForm {s : State} (h : s.outbox.FlightForm) :
    s.stopStation.state.outbox.FlightForm := by
  unfold State.stopStation
  split
  · exact h.of_station .offline
  · exact h

theorem State.joinStation_flightForm {s : State} (h : s.outbox.FlightForm) :
    s.joinStation.state.outbox.FlightForm := by
  unfold State.joinStation
  split
  · exact h.of_station .seeking
  · exact h

/-- R107: the entry in flight stays with its message. -/
theorem State.beginLeaving_flightForm {s : State} (h : s.outbox.FlightForm) : s.beginLeaving.outbox.FlightForm :=
  (h.of_entries (q := { s.sendQueue with entries := s.sendQueue.entries.filter SendEntry.flying })
    fun _ he => .inl (List.mem_filter.mp he).1).of_station .leaving

theorem State.leaveCluster_flightForm {s : State} (h : s.outbox.FlightForm) :
    s.leaveCluster.state.outbox.FlightForm := by
  unfold State.leaveCluster
  split
  · split
    · exact h
    · exact (s.arriveStandby_spares _).flightForm h
  · exact State.beginLeaving_flightForm h
  · exact State.beginLeaving_flightForm h
  all_goals exact h

theorem State.takeRequest_flightForm {s : State} (h : s.outbox.FlightForm) (tag : Byte) (request : Option Request) :
    (s.takeRequest tag request).state.outbox.FlightForm := by
  have hjoin (r : Request) : (s.setSendQueue (s.sendQueue.join tag r)).outbox.FlightForm := by
    refine h.of_entries fun e he => (List.mem_append.mp he).imp_right fun hnew => ?_
    rw [List.mem_singleton.mp hnew]
  unfold State.takeRequest
  repeat' split
  case isFalse.isFalse.isFalse.isFalse => exact hjoin _
  all_goals exact h

theorem State.recall_flightForm {s : State} (h : s.outbox.FlightForm) (tag : Byte) :
    (s.recall tag).state.outbox.FlightForm := by
  unfold State.recall
  split
  · split
    · exact h.of_entries fun e he => .inl (List.mem_filter.mp he).1
    · exact h
  · exact h

theorem runCommand_flightForm {s : State} (h : s.outbox.FlightForm) (c : HostCommand) (p : List Byte) :
    (runCommand c p s).state.outbox.FlightForm := by
  match c with
  | .start => exact State.startStation_flightForm h
  | .stop => exact State.stopStation_flightForm h
  | .join => exact State.joinStation_flightForm h
  | .leave => exact State.leaveCluster_flightForm h
  | .claim | .renew | .release | .cancel | .note => exact State.takeRequest_flightForm h _ _
  | .recall => exact State.recall_flightForm h _
  | .configure | .veto | .watch | .readZone | .readRoster | .readStation | .fetchEvent | .ackEvent | .reset =>
    exact (runCommand_spares rfl p s).flightForm h

end Sys2Proof.Machine
end

section
/-! SUPPORT. What one row of the opcode table answers, said once; a row and a bit time keep the form of the message in
flight; the statement about the send queue's form settled. -/

namespace Sys2Proof.Machine

/-! ## The rows -/

/-- What a row answers: the state as it stands, a command taken by its port, or one of the points and findings of the
line cycle. Of the moves of a step a bit time alone makes the change of the cycle position by itself. -/
inductive State.Answer (s : State) : State → Prop where
  | stays : s.Answer s
  | port (p : Port) : s.Answer (s.setPort p)
  | hardwareReset : s.Answer s.powerReset
  | command (c : HostCommand) (params : List Byte) (p : Port) : s.Answer ((runCommand c params s).state.setPort p)
  | mark (m : Mark) : s.Answer (s.takeMark m)
  | lostMark : s.Answer s.loseMark
  | status (slots : Slots) : s.Answer (s.takeStatus slots)
  | selection : s.Answer s.takeSelection
  | arbitrationLoss (bit : Fin 7) : s.Answer (s.loseAt bit)
  | claimFault (bit : Fin 7) : s.Answer (s.faultAt bit)
  | claim (read : ClaimRead) : s.Answer (s.takeClaim read)
  | messageMismatch (bit : Fin 160) : s.Answer (s.mismatchAt bit)
  | message (m : MessageBytes) : s.Answer (s.takeMessage m)
  | ownedMismatch (bit : Fin 512) : s.Answer (s.mismatchOwned bit)
  | verdict (a b : VerdictCopy) : s.Answer (s.takeVerdict a b)

namespace State.Answer

variable {s t : State}

theorem when {c : Prop} [Decidable c] (h : s.Answer t) : s.Answer (if c then t else s) := by
  split
  · exact h
  · exact .stays

theorem unlessReset (h : s.Answer t) : s.Answer (s.unlessReset t) := by
  unfold State.unlessReset
  split
  · exact .stays
  · exact h

theorem taken (s : State) (c : HostCommand) (params : List Byte) :
    s.Answer (s.takeCommand (.known c) params (runCommand c params)) := by
  unfold State.takeCommand
  split
  · exact .command c params _
  · exact .stays

theorem unknown (s : State) : s.Answer (s.takeCommand .unknown [] State.unknownByte) := by
  unfold State.takeCommand
  split
  · exact .port _
  · exact .stays

theorem endOfCycle (s : State) (finish : CycleEnd) : s.Answer (s.takeEnd finish) := by
  cases finish with
  | verdict a b => exact .verdict a b
  | cut bit claimStart => exact .mark (.early bit claimStart)

theorem csFalls (s : State) : s.Answer s.csFalls := by
  unfold State.csFalls
  split
  · exact .port _
  split
  · exact .stays
  split <;> exact .port _

theorem commandByte (s : State) (code : Byte) : s.Answer (s.commandByte code) := by
  unfold State.commandByte
  split
  · split
    · exact taken s _ []
    · exact .port _
  · exact unknown s

theorem parameterByte (s : State) (value : Byte) : s.Answer (s.parameterByte value) := by
  unfold State.parameterByte
  split
  · unfold State.paramByte
    split
    · exact taken s _ _
    · exact .port _
  · exact .stays

end State.Answer

open State.Answer

theorem exec_answer (i : Instr) (s : State) : ∃ t, exec i s = .next t ∧ s.Answer t := by
  have command (c : HostCommand) (params : List Byte) :
      s.Answer (s.unlessReset (s.takeCommand (.known c) params (runCommand c params))) :=
    unlessReset (taken s c params)
  have point {t : State} (h : s.Answer t) : s.Answer (s.unlessReset t) := unlessReset h
  have limit {c : Prop} [Decidable c] {t : State} (h : s.Answer t) :
      s.Answer (s.unlessReset (if c then t else s)) := unlessReset (when h)
  match i with
  | .hardwareReset => exact ⟨_, rfl, .hardwareReset⟩
  | .rstRelease => exact ⟨_, rfl, .port _⟩
  | .csFall => exact ⟨_, rfl, csFalls s⟩
  | .csRise => exact ⟨_, rfl, when (.port _)⟩
  | .replyByteComplete => exact ⟨_, rfl, unlessReset (when (.port _))⟩
  | .unknownCommand code => exact ⟨_, rfl, limit (unknown s)⟩
  | .commandByteComplete code => exact ⟨_, rfl, limit (commandByte s code)⟩
  | .parameterByteComplete value => exact ⟨_, rfl, point (parameterByte s value)⟩
  | .note tag destination length data =>
    exact ⟨_, rfl, limit (taken s .note (tag :: destination :: length :: data))⟩
  | .configure .. | .start | .stop | .join | .leave | .claim .. | .renew .. | .release .. | .cancel .. | .recall ..
  | .veto .. | .watch .. | .readZone .. | .readRoster | .readStation | .fetchEvent | .ackEvent .. | .reset =>
    exact ⟨_, rfl, command _ _⟩
  | .cycleMark => exact ⟨_, rfl, point (.mark .timely)⟩
  | .earlyMark bit claimStart => exact ⟨_, rfl, point (.mark (.early bit claimStart))⟩
  | .leaseExpiry zone m => exact ⟨_, rfl, limit (.mark m)⟩
  | .lostMark => exact ⟨_, rfl, point .lostMark⟩
  | .statusPoint slots => exact ⟨_, rfl, point (.status slots)⟩
  | .listenCheckPassed slots | .formationWaitExpiry slots | .evictionCandidate slots | .divergence slots =>
    exact ⟨_, rfl, limit (.status slots)⟩
  | .selectionPoint => exact ⟨_, rfl, point .selection⟩
  | .arbitrationLoss bit => exact ⟨_, rfl, point (.arbitrationLoss bit)⟩
  | .claimReadbackFault bit => exact ⟨_, rfl, point (.claimFault bit)⟩
  | .claimSegment read => exact ⟨_, rfl, point (.claim read)⟩
  | .messageReadbackMismatch bit => exact ⟨_, rfl, point (.messageMismatch bit)⟩
  | .messageSegment bytes => exact ⟨_, rfl, point (.message bytes)⟩
  | .ownedBitMismatch bit => exact ⟨_, rfl, point (.ownedMismatch bit)⟩
  | .readbackFault bit => exact ⟨_, rfl, limit (.ownedMismatch bit)⟩
  | .verdictPoint a b => exact ⟨_, rfl, point (.verdict a b)⟩
  | .retryLimitReached a b => exact ⟨_, rfl, limit (.verdict a b)⟩
  | .joinStall finish | .holdOffExpiry finish => exact ⟨_, rfl, limit (endOfCycle s finish)⟩

theorem State.Answer.flightForm {s t : State} (h : s.Answer t) (hs : s.outbox.FlightForm) :
    t.outbox.FlightForm := by
  cases h with
  | stays => exact hs
  | port p => exact hs
  | hardwareReset => exact s.powerReset_spares.flightForm hs
  | command c params p => exact runCommand_flightForm hs c params
  | mark m => exact (State.takeMark_grounded hs m).flightForm
  | lostMark => exact State.loseMark_flightForm hs
  | status slots => exact State.takeStatus_flightForm hs slots
  | selection => exact State.takeSelection_flightForm hs
  | arbitrationLoss bit => exact State.loseAt_flightForm hs bit
  | claimFault bit => exact State.faultAt_flightForm hs bit
  | claim read => exact State.takeClaim_flightForm hs read
  | messageMismatch bit => exact State.mismatchAt_flightForm hs bit
  | message m => exact State.takeMessage_flightForm hs m
  | ownedMismatch bit => exact (s.mismatchOwned_spares bit).flightForm hs
  | verdict a b => exact State.takeVerdict_flightForm hs a b

/-! ## The bit time -/

theorem State.setPosition_flightForm {s : State} (h : s.outbox.FlightForm) {p : CyclePosition}
    (hp : p.isBit = true ∨ s.selector.inFlight = none) : (s.setPosition p).outbox.FlightForm :=
  h.of_onBit fun hf => hp.resolve_right hf

theorem State.pointAfter_flightForm {s : State} (h : s.outbox.FlightForm) (n : Fin 512) :
    (s.pointAfter n).outbox.FlightForm := by
  unfold State.pointAfter
  split
  · exact State.takeVerdict_flightForm h _ _
  split
  · exact State.takeMessage_flightForm h _
  split
  · exact State.takeClaim_flightForm h _
  split
  · exact State.takeStatus_flightForm h _
  · exact h

/-- After the verdict point of the cycle, made by a row or at this bit, nothing is in flight. -/
theorem State.takeVerdict_lands {s : State} (h : s.outbox.FlightForm) (hbit : s.line.position.isBit = true)
    (a b : VerdictCopy) : (s.takeVerdict a b).selector.inFlight = none := by
  cases hcan : s.canMake .verdict with
  | true => exact (State.takeVerdict_grounded hcan a b).flight
  | false =>
    rw [s.takeVerdict_of_not a b hcan]
    have hpast : ¬ s.line.point.rank < CyclePoint.verdict.rank := by
      simpa [State.canMake, hbit] using hcan
    exact by_contra fun hf => hpast (h.before hf)

theorem bitTime_flightForm {s : State} (h : s.outbox.FlightForm) : (bitTime s).outbox.FlightForm := by
  unfold bitTime
  split
  · exact h
  have outside (hpos : s.line.position.isBit = false) : s.selector.inFlight = none :=
    by_contra fun hf => Bool.false_ne_true (hpos.symm.trans (h.onBit hf))
  split
  case h_1 => exact h
  case h_2 n hpos =>
    have hnext : (bitAfter n).isBit = true ∨ (s.pointAfter n).selector.inFlight = none := by
      by_cases hlast : n.val + 1 < 512
      · exact .inl (bitAfter_of_lt hlast ▸ rfl)
      · have hverdict : s.pointAfter n = s.takeVerdict s.quietCopyA s.quietCopyB := if_pos (by omega)
        rw [hverdict]
        exact .inr (State.takeVerdict_lands h (by rw [hpos]; rfl) _ _)
    have hmoved := State.setPosition_flightForm (State.pointAfter_flightForm h n) hnext
    unfold State.pointBefore
    split
    · exact State.takeSelection_flightForm hmoved
    · exact hmoved
  case h_3 hpos => exact State.setPosition_flightForm h (.inr (outside (by rw [hpos]; rfl)))
  case h_4 k hpos =>
    split
    · exact State.setPosition_flightForm h (.inr (outside (by rw [hpos]; rfl)))
    · exact State.loseMark_flightForm h

theorem step_flightForm {s t : State} (h : step s = .next t) (hs : s.outbox.FlightForm) : t.outbox.FlightForm := by
  cases hp : s.pending with
  | nil =>
    rw [step_of_empty hp] at h
    exact Host.Outcome.next.inj h ▸ bitTime_flightForm hs
  | cons c rest =>
    rw [step_of_cons hp] at h
    obtain ⟨u, hu, hanswer⟩ := exec_answer c (s.setPending rest)
    rw [hu] at h
    exact Host.Outcome.next.inj h ▸ hanswer.flightForm hs

end Sys2Proof.Machine

open Sys2Proof Sys2Proof.Machine

/-- Settles O55: the queue's form is kept by every move of a step; the message in flight with its entry by every row
and by a bit time, which leaves the bits of the cycle only after the verdict point. -/
theorem sendQueueFormKept : Obligations.SendQueueFormKept :=
  ⟨fun s t hwf hfits hstep => t.queueForm_iff.mp (step_keepsQueue hstep (s.queueForm_iff.mpr ⟨hwf, hfits⟩)),
    fun s t hs hstep => t.flightForm_iff.mp (step_flightForm hstep (s.flightForm_iff.mpr hs))⟩
end

section
/-! SUPPORT. The Event Queue by itself: its form (R160 to R163, R166), the three courses of a placed record, FETCH_EVENT
and ACK_EVENT, and the statement about the two commands settled. -/

namespace Sys2Proof.Machine

/-! ## The numbers (R162) -/

/-- A record that takes the next number goes on from those before it. -/
theorem numbered_append (next : Byte) (l : List QueuedRecord) (r : EventRecord) :
    numbered (next + 1) (l ++ [{ sequence := next, record := r }]) = numbered next l := by
  induction l with
  | nil => simp [numbered, natByte]
  | cons a l ih =>
    have hnumber : next + 1 - natByte (l.length + 1 + 1) = next - natByte (l.length + 1) := by
      simp only [natByte]
      bv_omega
    simp only [numbered, List.cons_append, List.length_append, List.length_singleton, hnumber, ih]

/-- The numbers do not depend on what the last record reports. -/
theorem numbered_append_congr (next n : Byte) (l : List QueuedRecord) (r r' : EventRecord) :
    numbered next (l ++ [{ sequence := n, record := r }]) = numbered next (l ++ [{ sequence := n, record := r' }]) := by
  induction l with
  | nil => rfl
  | cons a l ih => simp [numbered, ih]

theorem numbered_tail {next : Byte} {a : QueuedRecord} {l : List QueuedRecord} (h : numbered next (a :: l) = true) :
    numbered next l = true :=
  (Bool.and_eq_true_iff.mp h).2

/-! ## The form -/

/-- A list of records other than OVERFLOW. -/
def PlainRecords (l : List QueuedRecord) : Prop :=
  ∀ x ∈ l, x.record.isOverflow = false

/-- R160, R163: at most 31 records, and after them, once one was lost, an OVERFLOW. -/
inductive RecordsForm : List QueuedRecord → Prop where
  | plain {front : List QueuedRecord} (hplain : PlainRecords front) (hroom : front.length ≤ Config.eventRoom) :
      RecordsForm front
  | overflow {front : List QueuedRecord} (n : Byte) {lost : Nat} (hplain : PlainRecords front)
      (hroom : front.length ≤ Config.eventRoom) (hlow : 1 ≤ lost) (hhigh : lost ≤ Config.lostMax) :
      RecordsForm (front ++ [{ sequence := n, record := .overflow lost }])

/-- The form of the queue, part by part. -/
structure EventQueue.Form (q : EventQueue) : Prop where
  records  : RecordsForm q.records
  numbered : numbered q.nextSequence q.records = true
  fetched  : q.fetchedFits = true

theorem EventRecord.lostFits_of_plain {r : EventRecord} (h : r.isOverflow = false) : r.lostFits = true := by
  simp [EventRecord.lostFits, h]

theorem EventRecord.lostCount_of_plain {r : EventRecord} (h : r.isOverflow = false) : r.lostCount = 0 := by
  cases r with
  | overflow lost => cases h
  | _ => rfl

/-- The three conditions on the records alone, as the model checks them. -/
theorem recordsForm_iff (l : List QueuedRecord) :
    RecordsForm l ↔ recordsFit l = true ∧ overflowLast l = true ∧ (l.all fun x => x.record.lostFits) = true := by
  constructor
  · intro h
    cases h with
    | plain hplain hroom =>
      refine ⟨by simp [recordsFit, hroom], ?_, ?_⟩
      · simpa [overflowLast] using fun x hx => hplain x (List.mem_of_mem_dropLast hx)
      · simpa using fun x hx => EventRecord.lostFits_of_plain (hplain x hx)
    | overflow n hplain hroom hlow hhigh =>
      refine ⟨?_, by simpa [overflowLast, PlainRecords] using hplain, ?_⟩
      · simp [recordsFit, EventRecord.isOverflow, Nat.le_iff_lt_or_eq.mp hroom]
      · simpa [EventRecord.lostFits, EventRecord.isOverflow, EventRecord.lostCount, hlow, hhigh] using
          fun x hx => EventRecord.lostFits_of_plain (hplain x hx)
  · rintro ⟨hfit, hlast, hlost⟩
    rcases List.eq_nil_or_concat' l with rfl | ⟨front, ⟨n, r⟩, rfl⟩
    · exact .plain (fun _ hx => absurd hx List.not_mem_nil) (Nat.zero_le _)
    have hplain : PlainRecords front := by simpa [overflowLast, PlainRecords] using hlast
    cases hr : r.isOverflow with
    | false =>
      refine .plain ?_ (by simpa [recordsFit, hr] using hfit)
      simpa [PlainRecords, or_imp, forall_and, hr] using hplain
    | true =>
      cases r with
      | overflow lost =>
        have hroom : front.length ≤ Config.eventRoom := by
          have hlength : front.length + 1 ≤ Config.eventRoom ∨ front.length = Config.eventRoom := by
            simpa [recordsFit, EventRecord.isOverflow] using hfit
          omega
        have hrange : 1 ≤ lost ∧ lost ≤ Config.lostMax := by
          have hlast := List.all_eq_true.mp hlost _ (List.mem_append_right _ (List.mem_singleton.mpr rfl))
          obtain ⟨hlow, hhigh⟩ := Bool.and_eq_true_iff.mp hlast
          exact ⟨of_decide_eq_true hlow, of_decide_eq_true hhigh⟩
        exact .overflow n hplain hroom hrange.1 hrange.2
      | _ => cases hr

theorem EventQueue.form_iff (q : EventQueue) : q.Form ↔ q.wf = true := by
  simp only [EventQueue.wf, Bool.and_eq_true]
  constructor
  · intro h
    obtain ⟨hfit, hlast, hlost⟩ := (recordsForm_iff _).mp h.records
    exact ⟨⟨⟨⟨hfit, hlast⟩, h.numbered⟩, hlost⟩, h.fetched⟩
  · rintro ⟨⟨⟨⟨hfit, hlast⟩, hnumbered⟩, hlost⟩, hfetched⟩
    exact ⟨(recordsForm_iff _).mpr ⟨hfit, hlast, hlost⟩, hnumbered, hfetched⟩

theorem EventQueue.cleared_form : EventQueue.cleared.Form :=
  (EventQueue.form_iff _).mpr rfl

/-! ## A record placed (R163) -/

/-- The tail is no OVERFLOW: the record goes in while there is room, and an OVERFLOW in its place. -/
theorem EventQueue.place_of_plain {q : EventQueue} (h : PlainRecords q.records) (r : EventRecord) :
    q.place r = if q.records.length < Config.eventRoom then q.append r else q.append (.overflow 1) := by
  unfold EventQueue.place
  split
  · rename_i n lost hlast
    exact absurd (h _ (List.mem_of_getLast? hlast)) (by simp [EventRecord.isOverflow])
  · rfl

/-- The tail is an OVERFLOW: the record is counted into it. -/
theorem EventQueue.place_of_overflow {q : EventQueue} {front : List QueuedRecord} {n : Byte} {lost : Nat}
    (h : q.records = front ++ [{ sequence := n, record := .overflow lost }]) (r : EventRecord) :
    q.place r =
      { q with
        records := front ++ [{ sequence := n, record := .overflow (saturate Config.lostMax lost) }] } := by
  simp [EventQueue.place, h]

/-- The record appended takes the next number; the head stays, or is the record in a queue that was empty. -/
theorem EventQueue.append_form {q : EventQueue} (h : q.Form) {r : EventRecord}
    (hrecords : RecordsForm (q.append r).records) : (q.append r).Form where
  records := hrecords
  numbered := (numbered_append q.nextSequence q.records r).trans h.numbered
  fetched := by
    have hfetched := h.fetched
    obtain ⟨records, next, fetched⟩ := q
    cases records with
    | nil =>
      obtain rfl : fetched = 0 := by simpa [EventQueue.fetchedFits] using hfetched
      simp [EventQueue.fetchedFits, EventQueue.append]
    | cons head rest => exact hfetched

theorem EventQueue.place_form {q : EventQueue} (h : q.Form) {r : EventRecord} (hr : r.isOverflow = false) :
    (q.place r).Form := by
  obtain ⟨records, next, fetched⟩ := q
  cases h.records with
  | plain hplain hroom =>
    rw [EventQueue.place_of_plain hplain]
    split
    case isTrue hless =>
      have hall : PlainRecords (records ++ [{ sequence := next, record := r }]) := fun x hx =>
        (List.mem_append.mp hx).elim (hplain x) fun hnew => List.mem_singleton.mp hnew ▸ hr
      exact EventQueue.append_form h (.plain hall (by simpa [EventQueue.append] using hless))
    case isFalse => exact EventQueue.append_form h (.overflow next hplain hroom (by decide) (by decide))
  | @overflow front n lost hplain hroom hlow hhigh =>
    have hgrown : lost ≤ saturate Config.lostMax lost := by simp [saturate, hhigh]
    have hfetched := h.fetched
    rw [EventQueue.place_of_overflow rfl]
    refine ⟨.overflow n hplain hroom (hlow.trans hgrown) (saturate_le _ _),
      (numbered_append_congr next n front _ _).trans h.numbered, ?_⟩
    cases front with
    | nil =>
      have hbound : fetched ≤ lost := of_decide_eq_true hfetched
      exact decide_eq_true (hbound.trans hgrown)
    | cons head rest => exact hfetched

/-- R164: the records of one event placed one after another. -/
theorem EventQueue.placeAll_form {rs : List EventRecord} (hrs : ∀ r ∈ rs, r.isOverflow = false) {q : EventQueue}
    (h : q.Form) : (rs.foldl EventQueue.place q).Form := by
  induction rs generalizing q with
  | nil => exact h
  | cons r rs ih =>
    obtain ⟨hr, hrest⟩ := List.forall_mem_cons.mp hrs
    exact ih hrest (EventQueue.place_form h hr)

/-! ## The head fetched and removed (R166 to R168) -/

theorem RecordsForm.tail {head : QueuedRecord} {rest : List QueuedRecord} (h : RecordsForm (head :: rest)) :
    RecordsForm rest := by
  generalize hl : head :: rest = l at h
  cases h with
  | plain hplain hroom =>
    subst hl
    exact .plain (fun x hx => hplain x (List.mem_cons_of_mem _ hx)) (Nat.le_of_succ_le hroom)
  | @overflow front n lost hplain hroom hlow hhigh =>
    cases front with
    | nil =>
      obtain rfl : rest = [] := (List.cons.inj hl).2
      exact .plain (fun _ hx => absurd hx List.not_mem_nil) (Nat.zero_le _)
    | cons a front =>
      obtain rfl := (List.cons.inj hl).2
      exact .overflow n (fun x hx => hplain x (List.mem_cons_of_mem _ hx)) (Nat.le_of_succ_le hroom) hlow hhigh

/-- An OVERFLOW at the head is the only record (R168), and its lost count is in range. -/
theorem RecordsForm.alone {head : QueuedRecord} {rest : List QueuedRecord} (h : RecordsForm (head :: rest))
    (hlost : 0 < head.record.lostCount) : rest = [] ∧ head.record.lostCount ≤ Config.lostMax := by
  have hnot : ¬ head.record.isOverflow = false := fun hplain =>
    absurd (EventRecord.lostCount_of_plain hplain) (Nat.ne_of_gt hlost)
  generalize hl : head :: rest = l at h
  cases h with
  | plain hplain hroom =>
    subst hl
    exact absurd (hplain head List.mem_cons_self) hnot
  | @overflow front n lost hplain hroom hlow hhigh =>
    cases front with
    | nil =>
      obtain ⟨rfl, rfl⟩ := List.cons.inj hl
      exact ⟨rfl, hhigh⟩
    | cons a front =>
      obtain rfl := (List.cons.inj hl).1
      exact absurd (hplain _ List.mem_cons_self) hnot

/-- The fetch of a head changes the fetched count alone. -/
theorem EventQueue.fetch_form {q : EventQueue} (h : q.Form) {head : QueuedRecord} {rest : List QueuedRecord}
    (hq : q.records = head :: rest) : { q with fetched := head.record.lostCount }.Form :=
  ⟨h.records, h.numbered, by simp [EventQueue.fetchedFits, hq]⟩

/-- R167: the head removed, with no losses left to tell of. -/
theorem EventQueue.removeHead_of_told {q : EventQueue} {head : QueuedRecord} (rest : List QueuedRecord)
    (h : head.record.lostCount ≤ q.fetched) : q.removeHead head rest = { q with records := rest, fetched := 0 } :=
  if_neg (Nat.not_lt_of_le h)

/-- R168: the losses not told of left in a new OVERFLOW. -/
theorem EventQueue.removeHead_of_untold {q : EventQueue} {head : QueuedRecord} (rest : List QueuedRecord)
    (h : q.fetched < head.record.lostCount) :
    q.removeHead head rest =
      ({ q with records := rest, fetched := 0 } : EventQueue).append
        (.overflow (head.record.lostCount - q.fetched)) :=
  if_pos h

theorem EventQueue.removeHead_form {q : EventQueue} (h : q.Form) {head : QueuedRecord} {rest : List QueuedRecord}
    (hq : q.records = head :: rest) : (q.removeHead head rest).Form := by
  have hrecords : RecordsForm (head :: rest) := hq ▸ h.records
  have hrest : ({ q with records := rest, fetched := 0 } : EventQueue).Form := by
    refine ⟨hrecords.tail, numbered_tail (hq ▸ h.numbered), ?_⟩
    cases rest <;> simp [EventQueue.fetchedFits]
  rcases Nat.lt_or_ge q.fetched head.record.lostCount with hlost | htold
  · obtain ⟨rfl, hhigh⟩ := hrecords.alone (Nat.zero_lt_of_lt hlost)
    rw [EventQueue.removeHead_of_untold _ hlost]
    exact EventQueue.append_form hrest
      (.overflow (front := []) _ (fun _ hx => absurd hx List.not_mem_nil) (Nat.zero_le _) (Nat.sub_pos_of_lt hlost)
        ((Nat.sub_le _ _).trans hhigh))
  · rw [EventQueue.removeHead_of_told _ htold]
    exact hrest

/-! ## FETCH_EVENT and ACK_EVENT by the head -/

section
variable {s : State} {head : QueuedRecord} {rest : List QueuedRecord}

theorem State.fetchEvent_of_cons (h : s.events.records = head :: rest) :
    s.fetchEvent = (s.setEvents { s.events with fetched := head.record.lostCount }).done (queuedBytes head) := by
  simp only [State.fetchEvent, h]

theorem State.fetchEvent_of_empty (h : s.events.records = []) : s.fetchEvent = s.refuse .empty := by
  simp only [State.fetchEvent, h]

theorem State.ackEvent_of_head (h : s.events.records = head :: rest) :
    s.ackEvent head.sequence = (s.setEvents (s.events.removeHead head rest)).done [] := by
  simp only [State.ackEvent, h, if_true]

theorem State.ackEvent_of_other (h : s.events.records = head :: rest) {n : Byte} (hn : n ≠ head.sequence) :
    s.ackEvent n = s.refuse .mismatch := by
  simp only [State.ackEvent, h, if_neg hn.symm]

theorem State.ackEvent_of_empty (h : s.events.records = []) (n : Byte) : s.ackEvent n = s.refuse .empty := by
  simp only [State.ackEvent, h]

end

end Sys2Proof.Machine

open Sys2Proof Sys2Proof.Machine

/-- Settles O21: by the head of the queue, and for ACK_EVENT by its number and the losses not told of. -/
theorem fetchAndAckEvent : Obligations.FetchAndAckEvent := by
  refine ⟨fun s p hrun hp => ⟨fun head rest hq => ?fetch, fun hq => ?nothing⟩,
    fun s p n hrun hp => ⟨fun head rest hq hn htold => ?told, fun head rest hq hn hlost => ?untold,
      fun head rest hq hn => ?mismatch, fun hq => ?empty⟩⟩
  case fetch => exact exec_command_done rfl rfl hrun hp (State.fetchEvent_of_cons hq)
  case nothing => exact exec_command_refused rfl rfl hrun hp (State.fetchEvent_of_empty hq)
  case told =>
    subst hn
    rw [← EventQueue.removeHead_of_told rest htold]
    exact exec_command_done rfl rfl hrun hp (State.ackEvent_of_head hq)
  case untold =>
    subst hn
    have hexec := exec_command_done (i := .ackEvent head.sequence) rfl rfl hrun hp (State.ackEvent_of_head hq)
    rw [EventQueue.removeHead_of_untold rest hlost] at hexec
    exact hexec
  case mismatch => exact exec_command_refused rfl rfl hrun hp (State.ackEvent_of_other hq hn)
  case empty => exact exec_command_refused rfl rfl hrun hp (State.ackEvent_of_empty hq n)
end

section
/-! SUPPORT. All that a point of the line cycle, and a host command but three, does to the Event Queue: it places
records at its tail, none of them an OVERFLOW (R163, R164). -/

namespace Sys2Proof.Machine

/-- From one state to the other records are placed, none of them an OVERFLOW, and nothing else happens to the Event
Queue. -/
def State.Places (s t : State) : Prop :=
  ∃ rs : List EventRecord, (∀ r ∈ rs, r.isOverflow = false) ∧ t.events = rs.foldl EventQueue.place s.events

namespace State.Places

variable {s t u : State}

theorem of_placeAll {rs : List EventRecord} (h : t.events = rs.foldl EventQueue.place s.events)
    (hrs : ∀ r ∈ rs, r.isOverflow = false) : s.Places t :=
  ⟨rs, hrs, h⟩

theorem of_place {r : EventRecord} (h : t.events = s.events.place r) (hr : r.isOverflow = false) : s.Places t :=
  of_placeAll (rs := [r]) h (List.forall_mem_singleton.mpr hr)

/-- An operation on the rest of the station. -/
theorem of_same (h : t.events = s.events) : s.Places t :=
  of_placeAll (rs := []) h (List.forall_mem_nil _)

theorem refl (s : State) : s.Places s := of_same rfl

theorem trans (h : s.Places t) (h' : t.Places u) : s.Places u := by
  obtain ⟨rs, hrs, ht⟩ := h
  obtain ⟨rs', hrs', hu⟩ := h'
  refine ⟨rs ++ rs', List.forall_mem_append.mpr ⟨hrs, hrs'⟩, ?_⟩
  rw [List.foldl_append, ← ht, hu]

/-- An operation on the rest of the station, and then another. -/
theorem from_same (h : t.Places u) (ht : t.events = s.events) : s.Places u :=
  (of_same ht).trans h

/-- An operation that takes place on a condition. -/
theorem ite {c : Prop} [Decidable c] (h : c → s.Places t) (h' : ¬ c → s.Places u) :
    s.Places (if c then t else u) := by
  split
  · exact h ‹_›
  · exact h' ‹_›

/-- An operation that takes place on a condition, or not at all. -/
theorem when {c : Prop} [Decidable c] (h : s.Places t) : s.Places (if c then t else s) :=
  ite (fun _ => h) (fun _ => refl s)

theorem form (h : s.Places t) (hs : s.events.Form) : t.events.Form := by
  obtain ⟨rs, hrs, ht⟩ := h
  exact ht ▸ EventQueue.placeAll_form hrs hs

end State.Places

open State.Places

/-! ## The records of entries and of zones -/

/-- Records made of some entries, none of them an OVERFLOW. -/
theorem forall_mem_map_plain {l : List SendEntry} {f : SendEntry → EventRecord}
    (hf : ∀ e, (f e).isOverflow = false) : ∀ r ∈ l.map f, r.isOverflow = false :=
  List.forall_mem_map.mpr fun e _ => hf e

theorem State.withdrawAll_places (s : State) : s.Places s.withdrawAll :=
  of_placeAll rfl (forall_mem_map_plain fun _ => rfl)

theorem State.withdrawWaiting_places (s : State) : s.Places s.withdrawWaiting :=
  of_placeAll rfl (forall_mem_map_plain fun _ => rfl)

theorem State.abandonQueue_places (s : State) : s.Places s.abandonQueue :=
  of_placeAll rfl (List.forall_mem_append.mpr
    ⟨forall_mem_map_plain fun _ => rfl, forall_mem_map_plain fun _ => rfl⟩)

theorem State.endEntry_places (s : State) (tag : Byte) (o : RequestOutcome) (position : Option Nat)
    (set : Option StationSet) (commit : Option (BitVec 16)) : s.Places (s.endEntry tag o position set commit) := by
  unfold State.endEntry
  split
  · exact of_place rfl rfl
  · exact refl s

theorem State.zoneRecords_plain (s : State) (before : ZoneTable) (changes : Vector ZoneChange 64) :
    ∀ r ∈ s.zoneRecords before changes, r.isOverflow = false := by
  intro r hr
  obtain ⟨z, -, hz⟩ := List.mem_flatMap.mp hr
  rcases List.mem_append.mp hz with hz | hwatch
  rcases List.mem_append.mp hz with hexpire | hgrant
  · unfold State.expireRecords at hexpire
    split at hexpire
    · split at hexpire
      · exact List.mem_singleton.mp hexpire ▸ rfl
      · cases hexpire
    · cases hexpire
  · unfold State.grantRecords at hgrant
    split at hgrant
    · split at hgrant
      · split at hgrant
        · exact List.mem_singleton.mp hgrant ▸ rfl
        · cases hgrant
      · cases hgrant
    · cases hgrant
  · unfold State.watchRecords at hwatch
    split at hwatch
    · exact List.mem_singleton.mp hwatch ▸ rfl
    · cases hwatch

theorem State.reportZones_places (s : State) (before : ZoneTable) (changes : Vector ZoneChange 64) :
    s.Places (s.reportZones before changes) :=
  of_placeAll rfl (s.zoneRecords_plain before changes)

/-! ## Changes of local state -/

theorem State.arriveStandby_places (s : State) (reason : StateReason) : s.Places (s.arriveStandby reason) := by
  have hdepart : s.Places (s.depart .standby reason) := s.withdrawAll_places.trans (of_place rfl rfl)
  exact hdepart.trans (when (of_place rfl rfl))

theorem State.backToSeeking_places (s : State) (reason : StateReason) : s.Places (s.backToSeeking reason) :=
  s.withdrawAll_places.trans (of_place rfl rfl)

theorem State.enterDoubt_places (s : State) (reason : StateReason) : s.Places (s.enterDoubt reason) :=
  s.abandonQueue_places.trans (of_place rfl rfl)

theorem State.enterFaulted_places (s : State) (reason : StateReason) : s.Places (s.enterFaulted reason) :=
  s.abandonQueue_places.trans (of_place rfl rfl)

theorem State.enterSynced_places (s : State) (reason : StateReason) : s.Places (s.enterSynced reason) :=
  of_place rfl rfl

theorem State.enterJoining_places (s : State) : s.Places s.enterJoining :=
  of_place rfl rfl

theorem State.joinStall_places (s : State) : s.Places s.joinStall := by
  unfold State.joinStall
  split
  · exact s.backToSeeking_places _
  · exact s.arriveStandby_places _
  all_goals exact refl s

theorem State.stallStep_places (s : State) : s.Places s.stallStep :=
  ite (fun _ => s.countStall.joinStall_places.from_same rfl) (fun _ => when (of_same rfl))

theorem State.leaveDissolved_places (s : State) (before : Roster) : s.Places (s.leaveDissolved before) := by
  refine when ?_
  split
  · exact s.backToSeeking_places _
  · exact s.arriveStandby_places _
  all_goals exact refl s

theorem State.evicted_places (s : State) (reason : Byte) : s.Places (s.evicted reason) :=
  (State.arriveStandby_places _ .evicted).from_same rfl

theorem State.runHoldOffs_places (s : State) : s.Places s.runHoldOffs := by
  unfold State.runHoldOffs
  split <;> exact of_same rfl

/-! ## Owned bits -/

theorem State.ownedMismatch_places (s : State) : s.Places s.ownedMismatch := by
  refine ite (fun _ => refl s) fun _ => ?_
  exact ite (fun _ => (State.enterFaulted_places _ _).from_same rfl) (fun _ => of_same rfl)

theorem State.settleRun_places (s : State) : s.Places s.settleRun :=
  when (of_same rfl)

theorem State.readBackSlot_places (s : State) (slots : Slots) : s.Places (s.readBackSlot slots) := by
  have hclean : s.Places s.cleanSlot :=
    ite (fun _ => refl s) fun _ => ite (fun _ => of_same rfl) (fun _ => of_same rfl)
  unfold State.readBackSlot
  split
  · exact when (ite (fun _ => hclean) (fun _ => s.ownedMismatch_places))
  · exact refl s

theorem State.readBackVerdict_places (s : State) (a b : VerdictCopy) : s.Places (s.readBackVerdict a b) := by
  unfold State.readBackVerdict
  split
  · exact ite (fun _ => s.settleRun_places) fun _ =>
      ite (fun _ => s.ownedMismatch_places) fun _ => ite (fun _ => refl s) (fun _ => of_same rfl)
  · exact refl s

theorem State.mismatchOwned_places (s : State) (bit : Fin 512) : s.Places (s.mismatchOwned bit) :=
  when ((State.ownedMismatch_places _).from_same rfl)

/-! ## Cycle marks -/

theorem State.beginCycle_places (s : State) : s.Places s.beginCycle :=
  of_placeAll s.beginCycle_events (State.zoneRecords_plain _ _ _)

theorem State.cutCycle_places (s : State) (bit : Fin 512) (claimStart : Level) :
    s.Places (s.cutCycle bit claimStart) := by
  have hholds : s.Places (s.reachCut bit claimStart).cutHoldOffs :=
    from_same (ite (fun _ => refl _) (fun _ => State.runHoldOffs_places _)) rfl
  have hdoubt (t : State) : t.Places t.doubtAtCut := by
    have hcount : t.Places (if t.acquiring && t.line.point != .verdict then t.countStall else t) := when (of_same rfl)
    exact hcount.trans (State.enterDoubt_places _ _)
  have hstall (t : State) : t.Places t.dropFlight.cutStall :=
    from_same (ite (fun _ => refl _) (fun _ => State.stallStep_places _)) rfl
  exact hholds.trans (ite (fun _ => hdoubt _) (fun _ => hstall _))

theorem State.takeMark_places (s : State) (m : Mark) : s.Places (s.takeMark m) := by
  have hcut (bit : Fin 512) (claimStart : Level) := (s.cutCycle_places bit claimStart).trans
    (State.beginCycle_places _)
  cases m with
  | timely => exact ite (fun _ => hcut _ _) (fun _ => s.beginCycle_places)
  | early bit claimStart => exact ite (fun _ => hcut bit claimStart) (fun _ => s.beginCycle_places)

theorem State.loseMark_places (s : State) : s.Places s.loseMark := by
  refine ite (fun _ => refl s) fun _ => ?_
  have hover : s.Places (if s.countMarkFault.line.claimActive && s.countMarkFault.canDoubt then
      s.countMarkFault.enterDoubt .markFault else s.countMarkFault.dropFlight) :=
    from_same (t := s.countMarkFault) (ite (fun _ => State.enterDoubt_places _ _) (fun _ => of_same rfl)) rfl
  exact hover.trans (of_same rfl)

/-! ## The points up to the message segment -/

theorem State.readStatus_places (s : State) (slots : Slots) : s.Places (s.readStatus slots) := by
  have hcount (t : State) : t.Places (t.countSlots slots) := ite (fun _ => of_same rfl) (fun _ => of_same rfl)
  have hread := State.readBackSlot_places (s.makePoint .status 255) slots
  exact (hread.from_same rfl).trans (when ((hcount _).from_same rfl))

theorem State.actOnStatus_places (s : State) (slots : Slots) : s.Places (s.actOnStatus slots) := by
  unfold State.actOnStatus
  split
  · unfold State.listenStep
    split
    · exact when (ite (fun _ => s.enterFaulted_places _) (fun _ => of_same rfl))
    · exact refl s
  · exact ite (fun _ => of_same rfl) (fun _ => of_same rfl)
  · exact ite (fun _ => (State.enterDoubt_places _ _).from_same rfl) (fun _ => of_same rfl)
  all_goals exact refl s

theorem State.takeStatus_places (s : State) (slots : Slots) : s.Places (s.takeStatus slots) :=
  when ((s.readStatus_places slots).trans (State.actOnStatus_places _ slots))

theorem State.takeSelection_places (s : State) : s.Places s.takeSelection := by
  have hduties : s.Places (s.makePoint .selection 260).formDuties := by
    unfold State.formDuties
    split <;> exact of_same rfl
  refine when (hduties.trans ?_)
  rcases (s.makePoint .selection 260).formDuties.offerChoice_cases with hnone | ⟨own, source, hoffer⟩
  · exact of_same (congrArg State.events hnone)
  · exact of_same ((congrArg State.events hoffer).trans rfl)

theorem State.giveUpClaim_places (s : State) : s.Places s.giveUpClaim := by
  have hreturn (t : State) (tag : Byte) : t.Places (t.returnEntry tag) :=
    ite (fun _ => t.endEntry_places _ _ _ _ _) (fun _ => of_same rfl)
  unfold State.giveUpClaim
  split
  · dsimp only
    split
    · exact (hreturn _ _).from_same rfl
    · exact of_same rfl
    · exact of_same rfl
  · exact refl s

theorem State.loseClaim_places (s : State) : s.Places s.loseClaim :=
  s.countArbitrationLoss.giveUpClaim_places.from_same rfl

theorem State.faultClaim_places (s : State) : s.Places s.faultClaim :=
  s.countMismatch.giveUpClaim_places.from_same rfl

theorem State.takeClaim_places (s : State) (read : ClaimRead) : s.Places (s.takeClaim read) := by
  have hjudge (t : State) : t.Places (t.judgeClaim read) := by
    unfold State.judgeClaim
    split
    · split
      · exact of_same rfl
      · exact t.loseClaim_places
      · exact t.faultClaim_places
    · exact refl t
  have hjudged := hjudge ((s.makePoint .claim 266).holdClaim read)
  exact when ((ite (fun _ => hjudged.trans (State.settleRun_places _)) (fun _ => hjudged)).from_same rfl)

theorem State.loseAt_places (s : State) (bit : Fin 7) : s.Places (s.loseAt bit) := by
  unfold State.loseAt
  split
  · exact when ((State.loseClaim_places _).from_same rfl)
  · exact refl s

theorem State.faultAt_places (s : State) (bit : Fin 7) : s.Places (s.faultAt bit) := by
  unfold State.faultAt
  split
  · exact when ((State.faultClaim_places _).from_same rfl)
  · exact refl s

theorem State.mismatchAt_places (s : State) (bit : Fin 160) : s.Places (s.mismatchAt bit) := by
  unfold State.mismatchAt
  split
  · exact when (of_same rfl)
  · exact refl s

theorem State.takeMessage_places (s : State) (m : MessageBytes) : s.Places (s.takeMessage m) := by
  have hread (t : State) : t.Places (t.readBackMessage m) := by
    obtain ⟨flight, n, h⟩ := t.readBackMessage_shape m
    exact of_same ((congrArg State.events h).trans rfl)
  have hreceive (t : State) : t.Places (t.receive m) := ite (fun _ => of_same rfl) (fun _ => of_same rfl)
  have hstance (t : State) (intact : Bool) : t.Places (t.takeStance m intact) :=
    of_same ((congrArg State.events (t.takeStance_shape m intact)).trans rfl)
  exact when ((when ((hread _).trans ((hreceive _).trans (hstance _ _)))).from_same rfl)

end Sys2Proof.Machine
end

section
/-! SUPPORT. The commits, the verdict point and the host commands place records, but FETCH_EVENT, ACK_EVENT and the
resets, which keep the form of the Event Queue by themselves; the statement about its form settled. -/

namespace Sys2Proof.Machine

open State.Places

/-! ## A committed message -/

theorem State.senderCommitted_places (s : State) (before : ZoneTable) (sender : Addr) (b : Body) :
    s.Places (s.senderCommitted before sender b) := by
  have hentry (tag : Byte) (o : ZoneOutcome) : s.Places (s.endCommitted tag o) := by
    unfold State.endCommitted
    split
    · exact of_place rfl rfl
    · exact refl s
  unfold State.senderCommitted
  split
  · split
    · split
      · exact hentry _ _
      · exact refl s
      · exact of_same rfl
      · exact of_same rfl
    · exact refl s
  · exact refl s

theorem State.deliver_places (s : State) (sender : Addr) (b : Body) : s.Places (s.deliver sender b) := by
  unfold State.deliver
  split
  · exact when (of_place rfl rfl)
  all_goals exact refl s

theorem State.applyMessage_places (s : State) (sender : Addr) (b : Body) : s.Places (s.applyMessage sender b) := by
  have hsender : s.Places (((s.commitRoster sender b).setZones
      (changedEntries (s.zoneChanges (zoneEffect s.roster sender b)))).senderCommitted s.zones sender b) :=
    (State.senderCommitted_places _ _ _ _).from_same rfl
  exact hsender.trans ((State.reportZones_places _ _ _).trans (State.deliver_places _ _ _))

theorem State.plainCommit_places (s : State) (sender : Addr) (b : Body) : s.Places (s.plainCommit sender b) :=
  ite (fun _ => when ((s.applyMessage_places sender b).trans (State.leaveDissolved_places _ _)))
    (fun _ => s.applyMessage_places sender b)

/-! ## A joiner's commits -/

theorem State.loadRoster_places (s : State) (content : List Byte) : s.Places (s.loadRoster content) :=
  when (of_same rfl)

theorem State.loadZone_places (s : State) (index : Nat) (content : List Byte) :
    s.Places (s.loadZone index content) := by
  unfold State.loadZone
  split
  · exact when (of_same rfl)
  · exact refl s

theorem State.completeTransfer_places (s : State) : s.Places s.completeTransfer := by
  refine when ?_
  split
  · exact s.enterSynced_places _
  · exact of_same rfl
  all_goals exact refl s

theorem State.joinerSnap_places (s : State) (sender : Addr) (index : Nat) (content : List Byte) :
    s.Places (s.joinerSnap sender index content) := by
  have hblock : s.Places (s.loadRoster content) := s.loadRoster_places content
  have hzone : s.Places (s.loadZone index content) := s.loadZone_places index content
  have hgap : s.Places (s.enterDoubt .snapshotGap) := s.enterDoubt_places _
  have hnext : s.Places (s.nextBlock sender index content) :=
    hzone.trans ((State.completeTransfer_places _).from_same rfl)
  refine ite (fun _ => ite (fun _ => ?own) (fun _ => ?other)) (fun _ => ?noRoster)
  case own =>
    exact ite (fun _ => hnext) fun _ =>
      ite (fun _ => ite (fun _ => hblock) (fun _ => hzone)) (fun _ => hgap)
  case other => exact ite (fun _ => of_same rfl) fun _ => ite (fun _ => hblock) (fun _ => hgap)
  case noRoster =>
    unfold State.firstBlock
    split
    · exact when hblock
    · exact refl s

/-! ## Commits by local state -/

theorem State.clusterCommit_places (s : State) (sender : Addr) (b : Body) : s.Places (s.clusterCommit sender b) := by
  unfold State.clusterCommit
  split
  · exact refl s
  · exact ite (fun _ => s.arriveStandby_places _) (fun _ => s.plainCommit_places sender _)
  · exact ite (fun _ => s.evicted_places _) (fun _ => s.plainCommit_places sender _)
  · exact ite (fun _ => s.joinerSnap_places sender _ _) (fun _ => s.applyMessage_places sender _)
  all_goals exact s.plainCommit_places sender _

theorem State.doubtCommit_places (s : State) (sender : Addr) (b : Body) : s.Places (s.doubtCommit sender b) := by
  unfold State.doubtCommit
  split
  · exact when (s.arriveStandby_places _)
  · exact when (s.evicted_places _)
  all_goals exact refl s

theorem State.foundCommitted_places (s : State) (own : Addr) : s.Places (s.foundCommitted own) :=
  (State.enterSynced_places _ .formed).from_same rfl

theorem State.seekingCommit_places (s : State) (b : Body) : s.Places (s.seekingCommit b) := by
  unfold State.seekingCommit
  split
  · exact s.foundCommitted_places _
  · exact s.enterJoining_places
  · exact refl s

theorem State.intactCommit_places (s : State) (sender : Addr) (b : Body) : s.Places (s.intactCommit sender b) := by
  unfold State.intactCommit
  split
  case h_1 => exact s.seekingCommit_places b
  case h_2 => exact s.doubtCommit_places sender b
  case h_3 | h_4 | h_5 => exact s.clusterCommit_places sender b
  all_goals exact refl s

theorem State.damagedCommit_places (s : State) : s.Places s.damagedCommit := by
  unfold State.damagedCommit
  split
  · exact s.foundCommitted_places _
  · exact when (s.arriveStandby_places _)
  · exact when (s.enterDoubt_places _)

theorem State.onCommitted_places (s : State) : s.Places s.onCommitted := by
  unfold State.onCommitted
  split
  · exact (State.intactCommit_places _ _ _).from_same rfl
  · exact (State.damagedCommit_places _).from_same rfl

/-! ## The verdict point -/

theorem State.reachVerdict_places (s : State) (a b : VerdictCopy) : s.Places (s.reachVerdict a b) := by
  have hcopies : s.Places (s.copiesRead a b) := from_same (when (of_same rfl)) rfl
  have hread : s.Places (s.readVerdict a b) := hcopies.trans (State.readBackVerdict_places _ a b)
  have hcompare (t : State) : t.Places (t.compareCopies a b) := when (of_same rfl)
  have hserved (t : State) : t.Places t.clearServed := when (of_same rfl)
  exact hread.trans ((hcompare _).trans ((State.runHoldOffs_places _).trans (hserved _)))

theorem State.onObjected_places (s : State) (source : Source) (set : StationSet) :
    s.Places (s.onObjected source set) := by
  unfold State.onObjected
  split
  · exact s.endEntry_places _ _ _ _ _
  · exact s.arriveStandby_places _
  all_goals exact of_same rfl

theorem State.onLacking_places (s : State) (source : Source) (set : StationSet) :
    s.Places (s.onLacking source set) := by
  have hentry (tag : Byte) : s.Places (s.countAttempt tag set) := by
    unfold State.countAttempt
    split
    · exact ite (fun _ => s.endEntry_places _ _ _ _ _) fun _ =>
        ite (fun _ => s.endEntry_places _ _ _ _ _) (fun _ => of_same rfl)
    · exact refl s
  cases source with
  | entry tag => exact hentry tag
  | urgent d | sync d => exact refl s

theorem State.onNotCommitted_places (s : State) (a b : VerdictCopy) : s.Places (s.onNotCommitted a b) := by
  unfold State.onNotCommitted
  split
  · exact ite (fun _ => s.onLacking_places _ _) (fun _ => s.onObjected_places _ _)
  · exact refl s

theorem State.judge_places (s : State) (a b : VerdictCopy) : s.Places (s.judge a b) := by
  unfold State.judge
  split
  · exact s.onCommitted_places
  · exact s.onNotCommitted_places a b
  · exact when (s.enterDoubt_places _)
  · exact refl s

theorem State.updateStall_places (s before : State) (a b : VerdictCopy) : s.Places (s.updateStall before a b) :=
  when (ite (fun _ => of_same rfl) fun _ => ite (fun _ => s.stallStep_places) (fun _ => of_same rfl))

theorem State.takeVerdict_places (s : State) (a b : VerdictCopy) : s.Places (s.takeVerdict a b) := by
  have hdrop (t : State) : t.Places t.dropFlight := of_same rfl
  exact when ((s.reachVerdict_places a b).trans ((State.judge_places _ a b).trans
    ((State.updateStall_places _ _ a b).trans (hdrop _))))

/-! ## The host commands -/

theorem State.leaveCluster_places (s : State) : s.Places s.leaveCluster.state := by
  have hleaving : s.Places s.beginLeaving := s.withdrawWaiting_places.trans (of_place rfl rfl)
  unfold State.leaveCluster
  split
  · split
    · exact refl s
    · exact s.arriveStandby_places _
  · exact hleaving
  · exact hleaving
  all_goals exact refl s

theorem State.startStation_places (s : State) : s.Places s.startStation.state := by
  unfold State.startStation
  split
  · exact of_place (t := s.startListening) rfl rfl
  · exact refl s

theorem State.stopStation_places (s : State) : s.Places s.stopStation.state := by
  unfold State.stopStation
  split
  · exact of_place (t := s.goOffline) rfl rfl
  · exact refl s

theorem State.joinStation_places (s : State) : s.Places s.joinStation.state := by
  unfold State.joinStation
  split
  · exact of_place (t := (s.changeStation .seeking .command s.heldZones).beginSeeking) rfl rfl
  · exact refl s

theorem State.takeRequest_places (s : State) (tag : Byte) (request : Option Request) :
    s.Places (s.takeRequest tag request).state := by
  unfold State.takeRequest
  repeat' split
  all_goals exact of_same rfl

theorem State.recall_places (s : State) (tag : Byte) : s.Places (s.recall tag).state := by
  unfold State.recall
  repeat' split
  all_goals exact of_same rfl

theorem State.configure_places (s : State) (address silenceLimit formationWait retryLimit rejoin : Byte) :
    s.Places (s.configure address silenceLimit formationWait retryLimit rejoin).state := by
  unfold State.configure
  repeat' split
  all_goals exact of_same rfl

theorem State.writeVeto_places (s : State) (zone flag : Byte) : s.Places (s.writeVeto zone flag).state := by
  unfold State.writeVeto
  split <;> exact of_same rfl

theorem State.writeWatch_places (s : State) (zone flag : Byte) : s.Places (s.writeWatch zone flag).state := by
  unfold State.writeWatch
  split <;> exact of_same rfl

theorem State.readZone_places (s : State) (zone : Byte) : s.Places (s.readZone zone).state := by
  unfold State.readZone
  repeat' split
  all_goals exact refl s

theorem State.readRoster_places (s : State) : s.Places s.readRoster.state := by
  unfold State.readRoster
  split <;> exact refl s

/-! ## The form kept -/

theorem State.fetchEvent_form {s : State} (h : s.events.Form) : s.fetchEvent.state.events.Form := by
  cases hq : s.events.records with
  | nil =>
    rw [State.fetchEvent_of_empty hq]
    exact h
  | cons head rest =>
    rw [State.fetchEvent_of_cons hq]
    exact EventQueue.fetch_form h hq

theorem State.ackEvent_form {s : State} (h : s.events.Form) (n : Byte) : (s.ackEvent n).state.events.Form := by
  cases hq : s.events.records with
  | nil =>
    rw [State.ackEvent_of_empty hq]
    exact h
  | cons head rest =>
    by_cases hn : n = head.sequence
    · rw [hn, State.ackEvent_of_head hq]
      exact EventQueue.removeHead_form h hq
    · rw [State.ackEvent_of_other hq hn]
      exact h

theorem runCommand_eventsForm {s : State} (h : s.events.Form) (c : HostCommand) (p : List Byte) :
    (runCommand c p s).state.events.Form := by
  match c with
  | .fetchEvent => exact State.fetchEvent_form h
  | .ackEvent => exact State.ackEvent_form h _
  | .reset => exact EventQueue.cleared_form
  | .start => exact s.startStation_places.form h
  | .stop => exact s.stopStation_places.form h
  | .join => exact s.joinStation_places.form h
  | .leave => exact s.leaveCluster_places.form h
  | .claim | .renew | .release | .cancel | .note => exact (s.takeRequest_places _ _).form h
  | .recall => exact (s.recall_places _).form h
  | .configure => exact (s.configure_places _ _ _ _ _).form h
  | .veto => exact (s.writeVeto_places _ _).form h
  | .watch => exact (s.writeWatch_places _ _).form h
  | .readZone => exact (s.readZone_places _).form h
  | .readRoster => exact s.readRoster_places.form h
  | .readStation => exact h

theorem State.Move.eventsForm {s t : State} (hmove : s.Move t) (h : s.events.Form) : t.events.Form := by
  cases hmove with
  | pending queue => exact h
  | port p => exact h
  | position p hp => exact h
  | hardwareReset => exact EventQueue.cleared_form
  | command c params => exact runCommand_eventsForm h c params
  | mark m => exact (s.takeMark_places m).form h
  | lostMark => exact s.loseMark_places.form h
  | status slots => exact (s.takeStatus_places slots).form h
  | selection => exact s.takeSelection_places.form h
  | arbitrationLoss bit => exact (s.loseAt_places bit).form h
  | claimFault bit => exact (s.faultAt_places bit).form h
  | claim read => exact (s.takeClaim_places read).form h
  | messageMismatch bit => exact (s.mismatchAt_places bit).form h
  | message m => exact (s.takeMessage_places m).form h
  | ownedMismatch bit => exact (s.mismatchOwned_places bit).form h
  | verdict a b => exact (s.takeVerdict_places a b).form h

end Sys2Proof.Machine

open Sys2Proof Sys2Proof.Machine

/-- Settles O54: every move of a step places plain records, fetches or removes the head, or empties the queue. -/
theorem eventQueueFormKept : Obligations.EventQueueFormKept := by
  intro s t hwf hstep
  have hform : s.events.Form → t.events.Form :=
    step_of_moves (R := fun s t => s.events.Form → t.events.Form) (fun _ => id) (fun h h' => h' ∘ h)
      State.Move.eventsForm hstep
  exact t.events.form_iff.mp (hform (s.events.form_iff.mpr hwf))
end

section
/-! SUPPORT. The points and findings of the line cycle and a bit time leave the Policy Table, the Host Port, the
configuration record with its flag and the queue of commands as they are (R96, R172, R181), and so does every row of the
peer line; the statement about these rows settled. -/

namespace Sys2Proof.Machine

variable {s t u : State}

/-- One operation or another, on a condition. -/
theorem State.outer_ite {c : Prop} [Decidable c] (h : t.outer = s.outer) (h' : u.outer = s.outer) :
    (if c then t else u).outer = s.outer := by
  split
  · exact h
  · exact h'

/-- An operation that takes place on a condition, or not at all. -/
theorem State.outer_when {c : Prop} [Decidable c] (h : t.outer = s.outer) : (if c then t else s).outer = s.outer :=
  outer_ite h rfl

open State (outer_ite outer_when)

/-! ## Cycle marks -/

theorem State.beginCycle_outer (s : State) : s.beginCycle.outer = s.outer := rfl

theorem State.cutCycle_outer (s : State) (bit : Fin 512) (claimStart : Level) :
    (s.cutCycle bit claimStart).outer = s.outer := by
  have hholds (t : State) : t.cutHoldOffs.outer = t.outer := outer_ite rfl t.runHoldOffs_outer
  have hdoubt (t : State) : t.doubtAtCut.outer = t.outer :=
    (State.enterDoubt_outer _ _).trans (outer_when t.countStall_outer)
  have hstall (t : State) : t.cutStall.outer = t.outer := outer_ite rfl t.stallStep_outer
  have hcut : (s.reachCut bit claimStart).cutHoldOffs.outer = s.outer := hholds (s.reachCut bit claimStart)
  exact outer_ite ((hdoubt _).trans hcut) ((hstall _).trans ((State.dropFlight_outer _).trans hcut))

theorem State.takeEarlyMark_outer (s : State) (bit : Fin 512) (claimStart : Level) :
    (s.takeEarlyMark bit claimStart).outer = s.outer :=
  outer_ite ((State.beginCycle_outer _).trans (s.cutCycle_outer bit claimStart)) s.beginCycle_outer

theorem State.takeMark_outer (s : State) (m : Mark) : (s.takeMark m).outer = s.outer := by
  cases m with
  | timely => exact outer_ite ((State.beginCycle_outer _).trans (s.cutCycle_outer _ _)) s.beginCycle_outer
  | early bit claimStart => exact s.takeEarlyMark_outer bit claimStart

theorem State.loseMark_outer (s : State) : s.loseMark.outer = s.outer := by
  have hover : (if s.countMarkFault.line.claimActive && s.countMarkFault.canDoubt then
      s.countMarkFault.enterDoubt .markFault else s.countMarkFault.dropFlight).outer = s.outer :=
    outer_ite rfl rfl
  unfold State.loseMark
  split
  · rfl
  · exact hover

/-! ## The points up to the message segment -/

theorem State.readStatus_outer (s : State) (slots : Slots) : (s.readStatus slots).outer = s.outer := by
  have hcount (t : State) : (t.countSlots slots).outer = t.outer := by
    unfold State.countSlots
    split <;> rfl
  have hread : ((s.makePoint .status 255).readBackSlot slots).outer = s.outer := State.readBackSlot_outer _ slots
  exact outer_ite ((hcount _).trans hread) hread

theorem State.actOnStatus_outer (s : State) (slots : Slots) : (s.actOnStatus slots).outer = s.outer := by
  unfold State.actOnStatus
  split
  case h_1 =>
    unfold State.listenStep
    split
    · exact outer_when (outer_ite (s.enterFaulted_outer _) rfl)
    · rfl
  case h_2 => exact outer_ite rfl rfl
  case h_3 => exact outer_ite rfl rfl
  all_goals rfl

theorem State.takeStatus_outer (s : State) (slots : Slots) : (s.takeStatus slots).outer = s.outer :=
  outer_when ((State.actOnStatus_outer _ slots).trans (s.readStatus_outer slots))

theorem State.takeSelection_outer (s : State) : s.takeSelection.outer = s.outer := by
  have hduties (t : State) : t.formDuties.outer = t.outer := by
    unfold State.formDuties
    split <;> rfl
  have hoffer (t : State) : t.offerChoice.outer = t.outer := by
    unfold State.offerChoice
    split <;> rfl
  exact outer_when ((hoffer _).trans (hduties (s.makePoint .selection 260)))

theorem State.giveUpClaim_outer (s : State) : s.giveUpClaim.outer = s.outer := by
  have hreturn (t : State) (tag : Byte) : (t.returnEntry tag).outer = t.outer :=
    outer_ite (t.endEntry_outer _ _ _ _ _) rfl
  unfold State.giveUpClaim
  split
  · dsimp only
    split
    · exact hreturn _ _
    · rfl
    · rfl
  · rfl

theorem State.loseClaim_outer (s : State) : s.loseClaim.outer = s.outer :=
  s.countArbitrationLoss.giveUpClaim_outer

theorem State.faultClaim_outer (s : State) : s.faultClaim.outer = s.outer :=
  s.countMismatch.giveUpClaim_outer

theorem State.takeClaim_outer (s : State) (read : ClaimRead) : (s.takeClaim read).outer = s.outer := by
  have hjudge (t : State) : (t.judgeClaim read).outer = t.outer := by
    unfold State.judgeClaim
    split
    · split
      · rfl
      · exact t.loseClaim_outer
      · exact t.faultClaim_outer
    · rfl
  have hjudged : (((s.makePoint .claim 266).holdClaim read).judgeClaim read).outer = s.outer := hjudge _
  exact outer_when (outer_ite ((State.settleRun_outer _).trans hjudged) hjudged)

theorem State.loseAt_outer (s : State) (bit : Fin 7) : (s.loseAt bit).outer = s.outer := by
  unfold State.loseAt
  split
  · exact outer_when (State.loseClaim_outer (s.misreadBit (claimLineBit bit)))
  · rfl

theorem State.faultAt_outer (s : State) (bit : Fin 7) : (s.faultAt bit).outer = s.outer := by
  unfold State.faultAt
  split
  · exact outer_when (State.faultClaim_outer (s.misreadBit (claimLineBit bit)))
  · rfl

theorem State.mismatchAt_outer (s : State) (bit : Fin 160) : (s.mismatchAt bit).outer = s.outer := by
  unfold State.mismatchAt
  split
  · exact outer_when rfl
  · rfl

theorem State.takeMessage_outer (s : State) (m : MessageBytes) : (s.takeMessage m).outer = s.outer := by
  have hread (t : State) : (t.readBackMessage m).outer = t.outer := by
    obtain ⟨flight, n, h⟩ := t.readBackMessage_shape m
    rw [h]
    rfl
  have hreceive (t : State) : (t.receive m).outer = t.outer := outer_ite rfl rfl
  have hstance (t : State) (intact : Bool) : (t.takeStance m intact).outer = t.outer := by
    rw [t.takeStance_shape]
    rfl
  exact outer_when (outer_ite ((hstance _ _).trans ((hreceive _).trans (hread (s.makePoint .message 431)))) rfl)

theorem State.mismatchOwned_outer (s : State) (bit : Fin 512) : (s.mismatchOwned bit).outer = s.outer :=
  outer_when (State.ownedMismatch_outer (s.misreadBit bit))

/-! ## Commits -/

theorem State.plainCommit_outer (s : State) (sender : Addr) (b : Body) :
    (s.plainCommit sender b).outer = s.outer := by
  have hdissolved (t : State) : (t.leaveDissolved s.roster).outer = t.outer := by
    refine outer_when ?_
    split
    · rfl
    · exact t.arriveStandby_outer _
    all_goals rfl
  have happly := s.applyMessage_outer sender b
  exact outer_ite (outer_when ((hdissolved _).trans happly)) happly

theorem State.joinerSnap_outer (s : State) (sender : Addr) (index : Nat) (content : List Byte) :
    (s.joinerSnap sender index content).outer = s.outer := by
  have hroster : (s.loadRoster content).outer = s.outer := outer_when rfl
  have hzone : (s.loadZone index content).outer = s.outer := by
    unfold State.loadZone
    split
    · exact outer_when rfl
    · rfl
  have hcomplete (t : State) : t.completeTransfer.outer = t.outer := by
    refine outer_when ?_
    split <;> rfl
  have hnext : (s.nextBlock sender index content).outer = s.outer := (hcomplete _).trans hzone
  refine outer_ite (outer_ite ?own ?other) ?noRoster
  case own => exact outer_ite hnext (outer_ite (outer_ite hroster hzone) rfl)
  case other => exact outer_ite rfl (outer_ite hroster rfl)
  case noRoster =>
    unfold State.firstBlock
    split
    · exact outer_when hroster
    · rfl

theorem State.evicted_outer (s : State) (reason : Byte) : (s.evicted reason).outer = s.outer :=
  State.arriveStandby_outer _ .evicted

theorem State.clusterCommit_outer (s : State) (sender : Addr) (b : Body) :
    (s.clusterCommit sender b).outer = s.outer := by
  unfold State.clusterCommit
  split
  · rfl
  · exact outer_ite (s.arriveStandby_outer _) (s.plainCommit_outer sender _)
  · exact outer_ite (s.evicted_outer _) (s.plainCommit_outer sender _)
  · exact outer_ite (s.joinerSnap_outer sender _ _) (s.applyMessage_outer sender _)
  all_goals exact s.plainCommit_outer sender _

theorem State.intactCommit_outer (s : State) (sender : Addr) (b : Body) :
    (s.intactCommit sender b).outer = s.outer := by
  have hseeking : (s.seekingCommit b).outer = s.outer := by
    unfold State.seekingCommit
    split <;> rfl
  have hdoubt : (s.doubtCommit sender b).outer = s.outer := by
    unfold State.doubtCommit
    split
    · exact outer_when (s.arriveStandby_outer _)
    · exact outer_when (s.evicted_outer _)
    all_goals rfl
  unfold State.intactCommit
  split
  case h_1 => exact hseeking
  case h_2 => exact hdoubt
  case h_3 | h_4 | h_5 => exact s.clusterCommit_outer sender b
  all_goals rfl

theorem State.onCommitted_outer (s : State) : s.onCommitted.outer = s.outer := by
  have hdamaged (t : State) : t.damagedCommit.outer = t.outer := by
    unfold State.damagedCommit
    split
    · rfl
    · exact outer_when (t.arriveStandby_outer _)
    · exact outer_when rfl
  unfold State.onCommitted
  split
  · exact State.intactCommit_outer s.countCommit _ _
  · exact hdamaged s.countCommit

/-! ## The verdict point -/

theorem State.reachVerdict_outer (s : State) (a b : VerdictCopy) : (s.reachVerdict a b).outer = s.outer := by
  have hcopies : (s.copiesRead a b).outer = s.outer := outer_when (s := s.makePoint .verdict 499) rfl
  have hread : (s.readVerdict a b).outer = s.outer := (State.readBackVerdict_outer _ a b).trans hcopies
  have hcompare (t : State) : (t.compareCopies a b).outer = t.outer := outer_when rfl
  have hserved (t : State) : t.clearServed.outer = t.outer := outer_when rfl
  exact (hserved _).trans ((State.runHoldOffs_outer _).trans ((hcompare _).trans hread))

theorem State.onNotCommitted_outer (s : State) (a b : VerdictCopy) : (s.onNotCommitted a b).outer = s.outer := by
  have hentry (tag : Byte) (set : StationSet) : (s.countAttempt tag set).outer = s.outer := by
    unfold State.countAttempt
    split
    · exact outer_ite (s.endEntry_outer _ _ _ _ _) (outer_ite (s.endEntry_outer _ _ _ _ _) rfl)
    · rfl
  have hlacking (source : Source) (set : StationSet) : (s.onLacking source set).outer = s.outer := by
    cases source with
    | entry tag => exact hentry tag set
    | urgent | sync => rfl
  have hobjected (source : Source) (set : StationSet) : (s.onObjected source set).outer = s.outer := by
    unfold State.onObjected
    split
    · exact s.endEntry_outer _ _ _ _ _
    · exact s.arriveStandby_outer _
    all_goals rfl
  unfold State.onNotCommitted
  split
  · exact outer_ite (hlacking _ _) (hobjected _ _)
  · rfl

theorem State.takeVerdict_outer (s : State) (a b : VerdictCopy) : (s.takeVerdict a b).outer = s.outer := by
  have hjudge (t : State) : (t.judge a b).outer = t.outer := by
    unfold State.judge
    split
    · exact t.onCommitted_outer
    · exact t.onNotCommitted_outer a b
    · exact outer_when rfl
    · rfl
  have hstall (t before : State) : (t.updateStall before a b).outer = t.outer :=
    outer_when (outer_ite rfl (outer_ite t.stallStep_outer rfl))
  exact outer_when ((hstall _ _).trans ((hjudge _).trans (s.reachVerdict_outer a b)))

theorem State.takeEnd_outer (s : State) (finish : CycleEnd) : (s.takeEnd finish).outer = s.outer := by
  cases finish with
  | verdict a b => exact s.takeVerdict_outer a b
  | cut bit claimStart => exact s.takeEarlyMark_outer bit claimStart

/-! ## The bit time and the rows of the peer line -/

theorem State.pointAfter_outer (s : State) (n : Fin 512) : (s.pointAfter n).outer = s.outer :=
  outer_ite (s.takeVerdict_outer _ _) (outer_ite (s.takeMessage_outer _)
    (outer_ite (s.takeClaim_outer _) (outer_when (s.takeStatus_outer _))))

theorem bitTime_outer (s : State) : (bitTime s).outer = s.outer := by
  unfold bitTime
  refine outer_ite rfl ?_
  split
  · rfl
  · rename_i n _
    exact (outer_when (State.takeSelection_outer _)).trans (s.pointAfter_outer n)
  · rfl
  · exact outer_ite rfl s.loseMark_outer

/-- Every row of the peer line is one of the points and findings above, made unless RST# is low, and for a row that
names a limit unless the limit is not reached. -/
theorem exec_outer_of_line {i : Instr} (hi : isLineEvent i = true) (s : State) :
    ∃ t, exec i s = .next t ∧ t.outer = s.outer := by
  have point {t : State} (h : t.outer = s.outer) : (s.unlessReset t).outer = s.outer := outer_ite rfl h
  have limit {c : Prop} [Decidable c] {t : State} (h : t.outer = s.outer) :
      (s.unlessReset (if c then t else s)).outer = s.outer := point (outer_when h)
  cases i with
  | cycleMark => exact ⟨_, rfl, point (s.takeMark_outer .timely)⟩
  | earlyMark bit claimStart => exact ⟨_, rfl, point (s.takeEarlyMark_outer bit claimStart)⟩
  | leaseExpiry zone m => exact ⟨_, rfl, limit (s.takeMark_outer m)⟩
  | lostMark => exact ⟨_, rfl, point s.loseMark_outer⟩
  | statusPoint slots => exact ⟨_, rfl, point (s.takeStatus_outer slots)⟩
  | listenCheckPassed slots | formationWaitExpiry slots | evictionCandidate slots | divergence slots =>
    exact ⟨_, rfl, limit (s.takeStatus_outer slots)⟩
  | selectionPoint => exact ⟨_, rfl, point s.takeSelection_outer⟩
  | arbitrationLoss bit => exact ⟨_, rfl, point (s.loseAt_outer bit)⟩
  | claimReadbackFault bit => exact ⟨_, rfl, point (s.faultAt_outer bit)⟩
  | claimSegment read => exact ⟨_, rfl, point (s.takeClaim_outer read)⟩
  | messageReadbackMismatch bit => exact ⟨_, rfl, point (s.mismatchAt_outer bit)⟩
  | messageSegment bytes => exact ⟨_, rfl, point (s.takeMessage_outer bytes)⟩
  | ownedBitMismatch bit => exact ⟨_, rfl, point (s.mismatchOwned_outer bit)⟩
  | readbackFault bit => exact ⟨_, rfl, limit (s.mismatchOwned_outer bit)⟩
  | verdictPoint a b => exact ⟨_, rfl, point (s.takeVerdict_outer a b)⟩
  | retryLimitReached a b => exact ⟨_, rfl, limit (s.takeVerdict_outer a b)⟩
  | joinStall finish | holdOffExpiry finish => exact ⟨_, rfl, limit (s.takeEnd_outer finish)⟩
  | _ => cases hi

end Sys2Proof.Machine

open Sys2Proof Sys2Proof.Machine

/-- Settles O22: every row of the peer line leaves that part of the station as it is. -/
theorem lineEventsKeepHostSide : Obligations.LineEventsKeepHostSide := by
  intro i s t hi hexec
  obtain ⟨u, hu, houter⟩ := exec_outer_of_line hi s
  obtain rfl : u = t := Host.Outcome.next.inj (hu.symm.trans hexec)
  exact ⟨congrArg Outer.policy houter, congrArg Outer.port houter, congrArg Outer.config houter,
    congrArg Outer.configured houter, congrArg Outer.pending houter⟩
end

section
/-! SUPPORT. The transaction of the host port (sections 10.1 and 10.2): the form of its record by phase, what opens,
goes on with, answers and ends it, and the statement about that form settled. -/

namespace Sys2Proof.Machine

/-! ## The form of the transaction record (R172, R173) -/

/-- A reply holds at least its code (R176). -/
theorem Reply.bytes_pos (r : Reply) : 0 < r.bytes.length :=
  Nat.succ_pos _

namespace Port

variable {p : Port}

/-- Outside IDLE CS# is low, RST# high and the status byte captured. -/
theorem levels_of_wf (h : p.wf = true) (hphase : p.phase ≠ .idle) :
    p.csLow = true ∧ p.rstLow = false ∧ p.status.isSome = true := by
  unfold wf at h
  split at h
  · contradiction
  all_goals
    simp only [Bool.and_eq_true, Bool.not_eq_true'] at h
    simp only [h, and_self]

/-- An empty record stands in IDLE at any level of CS# and RST#. -/
theorem wf_setLevels (h : p.wf = true) (hphase : p.phase = .idle) (cs rst : Bool) :
    ({ p with csLow := cs, rstLow := rst } : Port).wf = true := by
  simpa only [wf, hphase] using h

theorem cleared_wf (cs rst : Bool) : ({ Port.cleared with csLow := cs, rstLow := rst } : Port).wf = true := rfl

/-- The record as CS_FALL opens it. -/
theorem opened_wf (b : StatusByte) :
    ({ Port.cleared with phase := .command, status := some b, csLow := true } : Port).wf = true := rfl

theorem parameters_wf (h : p.wf = true) (hphase : p.phase = .command) (c : PortCommand) :
    ({ p with phase := .parameters, command := some c } : Port).wf = true := by
  simp only [wf, hphase, Bool.and_eq_true] at h ⊢
  simp [h]

theorem parameters_append_wf (h : p.wf = true) (hphase : p.phase = .parameters) (bytes : List Byte) :
    ({ p with parameters := bytes } : Port).wf = true := by
  simpa only [wf, hphase] using h

/-- The reply captured: a transaction in progress goes on in REPLY at the code of its reply. -/
theorem answer_wf (h : p.wf = true) (hphase : p.phase ≠ .idle) (c : PortCommand) (params : List Byte) (r : Reply) :
    (p.answer c params r).wf = true := by
  obtain ⟨hcs, hrst, hstatus⟩ := levels_of_wf h hphase
  simp [wf, answer, hcs, hrst, hstatus, replyLength, r.bytes_pos]

/-- A reply byte shifted out: after the last one the reply is drained. -/
theorem shifted_wf (h : p.wf = true) (hphase : p.phase = .reply) :
    ({ p with
      replyPosition := p.replyPosition + 1
      phase := if p.replyLength ≤ p.replyPosition + 1 then .drained else .reply } : Port).wf = true := by
  simp only [wf, hphase] at h
  obtain ⟨hheld, hpos⟩ := Bool.and_eq_true_iff.mp h
  have hwithin : p.replyPosition < p.replyLength := of_decide_eq_true hpos
  by_cases hlast : p.replyLength ≤ p.replyPosition + 1
  · have hdrained : p.replyPosition + 1 = p.replyLength := by omega
    rw [if_pos hlast]
    exact Bool.and_eq_true_iff.mpr ⟨hheld, beq_iff_eq.mpr hdrained⟩
  · rw [if_neg hlast]
    exact Bool.and_eq_true_iff.mpr ⟨hheld, decide_eq_true (Nat.lt_of_not_le hlast)⟩

end Port

/-! ## The rows of a transaction (R173, R174) -/

section
variable {i : Instr} {c : PortCommand} {params : List Byte}

theorem exec_unknownCommand {code : Byte} (hcode : HostCommand.ofCode code = none) (s : State) :
    exec (.unknownCommand code) s = .next (s.unlessReset (s.takeCommand .unknown [] State.unknownByte)) :=
  congrArg (fun t => Host.Outcome.next (s.unlessReset t)) (if_pos hcode)

/-- The row of a transaction is the taking of its command; a term whose bytes do not fit together changes nothing. -/
theorem exec_of_transaction (hi : transactionOf i = some (c, params)) (s : State) :
    exec i s = .next s ∨ ∃ run, exec i s = .next (s.unlessReset (s.takeCommand c params run)) := by
  have unfit {t : State} {fits : Prop} [Decidable fits] (h : ¬ fits) :
      s.unlessReset (if fits then t else s) = s := by
    rw [if_neg h]
    exact ite_self s
  cases hwf : i.wellFormed with
  | true =>
    cases c with
    | known c => exact .inr ⟨_, exec_command hwf hi s⟩
    | unknown =>
      cases i with
      | unknownCommand code =>
        cases hi
        exact .inr ⟨_, exec_unknownCommand (Option.isNone_iff_eq_none.mp hwf) s⟩
      | _ => cases hi
  | false =>
    cases i with
    | note tag destination length data =>
      exact .inl (congrArg Host.Outcome.next (unfit (beq_eq_false_iff_ne.mp hwf)))
    | unknownCommand code =>
      refine .inl (congrArg Host.Outcome.next (unfit fun h => ?_))
      simp [Instr.wellFormed, h] at hwf
    | arbitrationLoss | ownedBitMismatch | readbackFault | commandByteComplete => cases hi
    | _ => cases hwf

end

/-! ## What keeps the form of the record -/

section
variable {s t : State}

/-- The port a command finds is a transaction in progress. -/
theorem State.readyPort_wf {c : PortCommand} {params : List Byte} {p : Port} (h : s.port.wf = true)
    (hrun : s.running) (hp : s.readyPort c params = some p) : p.wf = true ∧ p.phase ≠ .idle := by
  by_cases hphase : s.port.phase = .idle
  · simp only [State.readyPort, hphase] at hp
    split at hp
    · cases hp
    · cases hp
      have hlevel : s.port.rstLow = false := hrun
      rw [State.openPort, hlevel]
      exact ⟨Port.opened_wf _, by simp⟩
  · rcases s.readyPort_cases hp with ⟨hidle, -⟩ | rfl
    · exact absurd hidle hphase
    · exact ⟨h, hphase⟩

theorem State.takeCommand_portWf (h : s.port.wf = true) (hrun : s.running) (c : PortCommand) (params : List Byte)
    (run : State → Taken) : (s.takeCommand c params run).port.wf = true := by
  unfold State.takeCommand
  split
  · rename_i p hp
    obtain ⟨hwf, hphase⟩ := State.readyPort_wf h hrun hp
    exact Port.answer_wf hwf hphase c params _
  · exact h

theorem State.unlessReset_portWf (h : s.port.wf = true) (ht : s.running → t.port.wf = true) :
    (s.unlessReset t).port.wf = true := by
  unfold State.unlessReset
  split
  · exact h
  · exact ht (Bool.eq_false_iff.mpr ‹_›)

theorem State.csFalls_portWf (h : s.port.wf = true) : s.csFalls.port.wf = true := by
  by_cases hphase : s.port.phase = .idle
  · unfold State.csFalls
    split
    · exact Port.wf_setLevels h hphase true s.port.rstLow
    · rename_i hrst
      have hrun : s.port.rstLow = false := Bool.eq_false_iff.mpr hrst
      rw [hphase, State.openPort, hrun]
      split
      · exact h
      · exact Port.opened_wf _
  · obtain ⟨hcs, hrst, -⟩ := Port.levels_of_wf h hphase
    rw [State.csFalls, hrst, hcs]
    exact h

theorem State.csRises_portWf (h : s.port.wf = true) : s.csRises.port.wf = true := by
  unfold State.csRises
  split
  · exact Port.cleared_wf false s.port.rstLow
  · exact h

theorem State.releaseReset_portWf (h : s.port.wf = true) : s.releaseReset.port.wf = true := by
  by_cases hphase : s.port.phase = .idle
  · exact Port.wf_setLevels h hphase s.port.csLow false
  · obtain ⟨-, hrst, -⟩ := Port.levels_of_wf h hphase
    rw [State.releaseReset, ← hrst]
    exact h

theorem State.replyByte_portWf (h : s.port.wf = true) : s.replyByte.port.wf = true := by
  unfold State.replyByte
  split
  · exact Port.shifted_wf h ‹_›
  · exact h

section
variable (h : s.port.wf = true) (hrun : s.running)
include h hrun

theorem State.commandByte_portWf (hphase : s.port.phase = .command) (code : Byte) :
    (s.commandByte code).port.wf = true := by
  unfold State.commandByte
  split
  · split
    · exact State.takeCommand_portWf h hrun _ _ _
    · exact Port.parameters_wf h hphase _
  · exact State.takeCommand_portWf h hrun _ _ _

theorem State.parameterByte_portWf (value : Byte) : (s.parameterByte value).port.wf = true := by
  unfold State.parameterByte
  split
  · rename_i hphase _
    unfold State.paramByte
    split
    · exact State.takeCommand_portWf h hrun _ _ _
    · exact Port.parameters_append_wf h hphase _
  · exact h

end

/-- Every row keeps the form of the record: an event of the port's pins and bytes, a command, or a row of the peer
line, which leaves the port alone. -/
theorem exec_portWf (i : Instr) (h : s.port.wf = true) : ∃ t, exec i s = .next t ∧ t.port.wf = true := by
  cases htrans : transactionOf i with
  | some ct =>
    obtain ⟨c, params⟩ := ct
    rcases exec_of_transaction htrans s with hsame | ⟨run, htaken⟩
    · exact ⟨s, hsame, h⟩
    · exact ⟨_, htaken, State.unlessReset_portWf h fun hrun => State.takeCommand_portWf h hrun c params run⟩
  | none =>
    cases hedge : isPortEdge i with
    | false =>
      have hline : isLineEvent i = true := by simp [isLineEvent, htrans, hedge]
      obtain ⟨t, ht, houter⟩ := exec_outer_of_line hline s
      have hport : t.port = s.port := congrArg Outer.port houter
      exact ⟨t, ht, hport ▸ h⟩
    | true =>
      cases i with
      | hardwareReset => exact ⟨_, rfl, Port.cleared_wf s.port.csLow true⟩
      | rstRelease => exact ⟨_, rfl, State.releaseReset_portWf h⟩
      | csFall => exact ⟨_, rfl, State.csFalls_portWf h⟩
      | csRise => exact ⟨_, rfl, State.csRises_portWf h⟩
      | replyByteComplete => exact ⟨_, rfl, State.unlessReset_portWf h fun _ => State.replyByte_portWf h⟩
      | parameterByteComplete value =>
        exact ⟨_, rfl, State.unlessReset_portWf h fun hrun => State.parameterByte_portWf h hrun value⟩
      | commandByteComplete code =>
        refine ⟨_, rfl, State.unlessReset_portWf h fun hrun => ?_⟩
        split
        · exact State.commandByte_portWf h hrun ‹_› code
        · exact h
      | _ => cases hedge

end

end Sys2Proof.Machine

open Sys2Proof Sys2Proof.Machine

/-- Settles O60: a row keeps the form, and a bit time leaves the port alone. -/
theorem portFormKept : Obligations.PortFormKept := by
  intro s t h hstep
  cases hp : s.pending with
  | nil =>
    rw [step_of_empty hp] at hstep
    obtain rfl := Host.Outcome.next.inj hstep
    have hport : (bitTime s).port = s.port := congrArg Outer.port (bitTime_outer s)
    rw [hport]
    exact h
  | cons c rest =>
    rw [step_of_cons hp] at hstep
    obtain ⟨u, hu, hwf⟩ := exec_portWf (s := s.setPending rest) c h
    exact Host.Outcome.next.inj (hu.symm.trans hstep) ▸ hwf
end

section
/-! SUPPORT. The statements about the pins and bytes of the host port and the taking of a command settled: which state
each byte and edge answers. -/

namespace Sys2Proof.Machine

/-- A well-formed row carries as many parameter bytes as its command takes (Table 10-2, R179). -/
theorem paramCount_of_transaction {i : Instr} {c : HostCommand} {params : List Byte} (hwf : i.wellFormed = true)
    (hi : transactionOf i = some (.known c, params)) : c.paramCount params = params.length := by
  cases i with
  | note tag destination length data =>
    cases hi
    have hlength : 3 + data.length = noteParams length := beq_iff_eq.mp hwf
    show noteParams length = data.length + 3
    omega
  | _ => cases hi <;> rfl

/-- A taking that answers a code other than OK answers no data with it. -/
def Taken.Plain (k : Taken) : Prop :=
  k.reply.code ≠ .ok → k.reply.data = []

@[simp] theorem State.done_plain (s : State) (data : List Byte) : (s.done data).Plain :=
  fun hcode => absurd rfl hcode

@[simp] theorem State.refuse_plain (s : State) (code : ReplyCode) : (s.refuse code).Plain :=
  fun _ => rfl

/-- A command is done, with a reply of OK, or refused with a code alone. -/
theorem runCommand_plain (c : HostCommand) (params : List Byte) (s : State) : (runCommand c params s).Plain := by
  -- each branch of the block that owns the command ends in `done` or in `refuse`
  cases c <;> dsimp only [runCommand, State.configure, State.startStation, State.stopStation, State.joinStation,
    State.leaveCluster, State.takeRequest, State.recall, State.writeVeto, State.writeWatch, State.readZone,
    State.readRoster, State.readStation, State.fetchEvent, State.ackEvent]
  all_goals repeat' split
  all_goals simp only [State.done_plain, State.refuse_plain]

end Sys2Proof.Machine

open Sys2Proof Sys2Proof.Machine

/-- Settles O9: a command out of turn is not taken. -/
theorem commandsOutOfTurnHaveNoEffect : Obligations.CommandsOutOfTurnHaveNoEffect := by
  intro i c params s hi hready
  rcases exec_of_transaction hi s with hsame | ⟨run, htaken⟩
  · exact hsame
  · rw [htaken, State.takeCommand_of_not_ready run hready]
    exact congrArg Host.Outcome.next (ite_self s)

/-- Settles O8: no command that is refused answers data, and an unknown one is refused. -/
theorem commandsAnswerAtOnePoint : Obligations.CommandsAnswerAtOnePoint := by
  intro i c params s p hwf hi hrun hp
  cases c with
  | known c =>
    exact ⟨_, _, exec_command_of_ready hwf hi hrun hp, rfl, runCommand_plain c params s⟩
  | unknown =>
    cases i with
    | unknownCommand code =>
      cases hi
      have hexec := exec_unknownCommand (Option.isNone_iff_eq_none.mp hwf) s
      rw [State.unlessReset_of_running hrun, State.takeCommand_of_ready _ hp] at hexec
      exact ⟨_, _, hexec, rfl, fun _ => rfl⟩
    | _ => cases hi

/-- Settles O7: the last byte comes to the same taking as the row. -/
theorem bytesTakeTheSameCommand : Obligations.BytesTakeTheSameCommand := by
  refine ⟨fun i c received last s hwf hi hrun hphase hcommand hreceived => ?last,
    fun i c code s hwf hi hrun hphase hcode => ?command⟩
  case last =>
    have hcount := (paramCount_of_transaction hwf hi).le
    have hbyte : s.parameterByte last =
        s.takeCommand (.known c) (received ++ [last]) (runCommand c (received ++ [last])) := by
      simp only [State.parameterByte, hphase, hcommand, hreceived, State.paramByte, hcount, if_true]
    rw [exec_command hwf hi s, ← hbyte]
    rfl
  case command =>
    have hcount : c.paramCount [] = 0 := paramCount_of_transaction hwf hi
    have hbyte : s.commandByte code = s.takeCommand (.known c) [] (runCommand c []) := by
      simp only [State.commandByte, hcode, hcount, if_true]
    rw [exec_command hwf hi s, ← hbyte]
    exact congrArg (fun t => Host.Outcome.next (s.unlessReset t)) (if_pos hphase)

/-- Settles O6: each byte by its place in the transaction. -/
theorem transactionBytes : Obligations.TransactionBytes := by
  refine ⟨fun s code c hrun hphase hcode hcount => ?command, fun s value c hrun hphase hcommand hcount => ?parameter,
    fun s hrun hphase => ?reply, fun s code p hrun hcode hp => ?unknown⟩
  case command =>
    have hbyte : s.commandByte code = s.setPort { s.port with phase := .parameters, command := some (.known c) } := by
      simp only [State.commandByte, hcode, hcount, if_false]
    rw [← hbyte]
    exact congrArg Host.Outcome.next ((State.unlessReset_of_running hrun).trans (if_pos hphase))
  case parameter =>
    have hmore : ¬ c.paramCount (s.port.parameters ++ [value]) ≤ (s.port.parameters ++ [value]).length := by
      simpa using hcount
    have hbyte : s.parameterByte value = s.setPort { s.port with parameters := s.port.parameters ++ [value] } := by
      simp only [State.parameterByte, hphase, hcommand, State.paramByte, hmore, if_false]
    rw [← hbyte]
    exact congrArg Host.Outcome.next (State.unlessReset_of_running hrun)
  case reply =>
    exact congrArg Host.Outcome.next ((State.unlessReset_of_running hrun).trans (if_pos hphase))
  case unknown =>
    rw [exec_unknownCommand hcode, State.unlessReset_of_running hrun, State.takeCommand_of_ready _ hp]
    rfl

/-- Settles O5: CS_FALL by the level of CS# and the phase; CS_RISE leaves the record cleared. -/
theorem chipSelectEdges : Obligations.ChipSelectEdges := by
  refine ⟨fun s hrun hcs hphase => ?opens, fun s hrun hcs => ?low, fun s hrun hcs => ?rises⟩
  all_goals have hrst : s.port.rstLow = false := hrun
  case opens =>
    show Host.Outcome.next s.csFalls = _
    simp only [State.csFalls, hrst, hcs, hphase, Bool.false_eq_true, if_false, State.openPort]
    rfl
  case low =>
    show Host.Outcome.next s.csFalls = _
    simp only [State.csFalls, hrst, hcs, Bool.false_eq_true, if_false, if_true]
  case rises =>
    show Host.Outcome.next s.csRises = _
    simp only [State.csRises, hrst, hcs, if_true]
    rfl

/-- Settles O4: the reset value releases PLD, EVT# and SDO; every row but RST# and CS# is made only with RST# high. -/
theorem resetPin : Obligations.ResetPin := by
  refine ⟨⟨fun s => rfl, fun s t bit hexec => ?pins, fun s => rfl⟩,
    fun c s hrst hreset hrelease hfall hrise => ?held, fun s hrst => ?falls, fun s hrst hcs => ?rises⟩
  case pins =>
    obtain rfl := Host.Outcome.next.inj hexec
    exact ⟨rfl, rfl, rfl⟩
  case held =>
    have gate (t : State) : (.next (s.unlessReset t) : Host.Outcome State Fault Refusal) = .next s :=
      congrArg Host.Outcome.next (State.unlessReset_of_reset hrst)
    cases c with
    | hardwareReset | rstRelease | csFall | csRise => contradiction
    | _ => exact gate _
  case falls => exact congrArg Host.Outcome.next (if_pos hrst)
  case rises =>
    refine (congrArg Host.Outcome.next (if_pos hcs)).trans ?_
    rw [hrst]
end

section
/-! SUPPORT. The RESET command, the Policy Table and the read commands (sections 10.3 to 10.5): a flag written, the
bytes of each reply as the statements spell them, and the statements settled; the state after reset has every form. -/

namespace Sys2Proof.Machine

/-! ## Flags and local states -/

theorem flagByte_beq {α : Type} [DecidableEq α] (x y : α) : flagByte (x == y) = if x = y then 1 else 0 := by
  by_cases h : x = y <;> simp [flagByte, h]

theorem flagByte_bne {α : Type} [DecidableEq α] (x y : α) : flagByte (x != y) = if x = y then 0 else 1 := by
  by_cases h : x = y <;> simp [flagByte, h]

theorem State.readable_iff (s : State) :
    s.readable = true ↔ s.station = .synced ∨ s.station = .leaving ∨ s.station = .doubt := by
  simp [State.readable, or_assoc]

theorem State.not_readable {s : State} (hsynced : s.station ≠ .synced) (hleaving : s.station ≠ .leaving)
    (hdoubt : s.station ≠ .doubt) : s.readable = false := by
  simp [State.readable, hsynced, hleaving, hdoubt]

/-- R182, R183: a flag written, and every other flag as it was. -/
theorem zoneFlag_setZoneFlag (flags : ZoneFlags) (z y : ZoneId) (b : Bool) :
    zoneFlag (setZoneFlag flags z b) y = if y = z then b else zoneFlag flags y := by
  by_cases h : y = z
  · rw [if_pos h, h, zoneFlag_setZoneFlag_self]
  · rw [if_neg h, zoneFlag_setZoneFlag_of_ne flags b (Ne.symm h)]

section
variable {s : State} {zone flag : Byte}

theorem State.writeVeto_of_lt (h : zone.toNat < 64) :
    s.writeVeto zone flag =
      (s.setPolicy { s.policy with veto := setZoneFlag s.policy.veto ⟨zone.toNat, h⟩ (flag != 0) }).done
        [flagByte (zoneFlag s.policy.veto ⟨zone.toNat, h⟩)] := by
  simp only [State.writeVeto, zoneOf_of_lt h]

theorem State.writeWatch_of_lt (h : zone.toNat < 64) :
    s.writeWatch zone flag =
      (s.setPolicy { s.policy with watch := setZoneFlag s.policy.watch ⟨zone.toNat, h⟩ (flag != 0) }).done
        [flagByte (zoneFlag s.policy.watch ⟨zone.toNat, h⟩)] := by
  simp only [State.writeWatch, zoneOf_of_lt h]

theorem State.writeVeto_of_range (h : 64 ≤ zone.toNat) : s.writeVeto zone flag = s.refuse .range := by
  simp only [State.writeVeto, (zoneOf_eq_none_iff zone).mpr h]

theorem State.writeWatch_of_range (h : 64 ≤ zone.toNat) : s.writeWatch zone flag = s.refuse .range := by
  simp only [State.writeWatch, (zoneOf_eq_none_iff zone).mpr h]

/-! ## READ_ZONE (R184, Table 10-5) -/

theorem State.readZone_of_lt (hread : s.readable = true) (h : zone.toNat < 64) :
    s.readZone zone = s.done (s.zoneReply ⟨zone.toNat, h⟩) := by
  simp only [State.readZone, hread, zoneOf_of_lt h, if_true]

theorem State.readZone_of_range (hread : s.readable = true) (h : 64 ≤ zone.toNat) :
    s.readZone zone = s.refuse .range := by
  simp only [State.readZone, hread, (zoneOf_eq_none_iff zone).mpr h, if_true]

theorem State.readZone_of_state (hread : s.readable = false) : s.readZone zone = s.refuse .state :=
  if_neg (Bool.eq_false_iff.mp hread)

end

theorem waitersBytes_getD (q : List Waiter) {j : Nat} (hj : j < 8) :
    (waitersBytes q).getD j 0 = (q.flatMap waiterBytes).getD j 0 := by
  simp [waitersBytes, vectorOf, tabulate, hj]

/-- Table 11-6: the two bytes of a waiter record that the queue holds. -/
theorem waitersBytes_of_some {q : List Waiter} {i : Fin 4} {w : Waiter} (h : q[i.val]? = some w) :
    (waitersBytes q).getD (2 * i.val) 0 = nibbles w.station.val w.mode.code
    ∧ (waitersBytes q).getD (2 * i.val + 1) 0 = w.duration := by
  obtain ⟨hlt, rfl⟩ := List.getElem?_eq_some_iff.mp h
  rw [waitersBytes_getD q (by omega), waitersBytes_getD q (by omega)]
  exact flatMap_waiterBytes q hlt

/-- Table 11-6: the places beyond the queue hold 0. -/
theorem waitersBytes_of_none {q : List Waiter} {i : Fin 4} (h : q[i.val]? = none) :
    (waitersBytes q).getD (2 * i.val) 0 = 0 ∧ (waitersBytes q).getD (2 * i.val + 1) 0 = 0 := by
  have hlength : (q.flatMap waiterBytes).length = 2 * q.length := flatMap_length_of_const q _ 2 fun _ => rfl
  have hbeyond := List.getElem?_eq_none_iff.mp h
  rw [waitersBytes_getD q (by omega), waitersBytes_getD q (by omega)]
  exact ⟨List.getD_eq_default _ _ (by omega), List.getD_eq_default _ _ (by omega)⟩

/-- Table 11-10: three flags in the low bits of a byte. -/
theorem presence_bits (a b c : Bool) :
    natByte (presence a 4 + presence b 2 + presence c 1) < 8
    ∧ (natByte (presence a 4 + presence b 2 + presence c 1)).getLsbD 2 = a
    ∧ (natByte (presence a 4 + presence b 2 + presence c 1)).getLsbD 1 = b
    ∧ (natByte (presence a 4 + presence b 2 + presence c 1)).getLsbD 0 = c := by
  revert a b c
  decide

/-! ## READ_ROSTER (R185, Table 10-6) -/

theorem Role.code_ofCode {n : Nat} (h : n < 4) : (Role.ofCode n).code = n := by
  interval_cases n <;> rfl

/-- The role table of the reply is that of the roster block (Tables 10-6 and 11-5). -/
theorem rolesBytes_role (r : Roster) (a : Addr) :
    ((rolesBytes r.roles).getD (a.val / 4) 0).toNat / 4 ^ (3 - a.val % 4) % 4 = (r.role a).code := by
  have hblock : (rosterBlock r).getD (a.val / 4) 0 = (rolesBytes r.roles).getD (a.val / 4) 0 := by
    have hbyte : a.val / 4 < (rolesBytes r.roles).length := by
      show a.val / 4 < 4
      omega
    simp only [rosterBlock, List.append_assoc]
    exact List.getD_append _ _ _ _ hbyte
  have hrole := congrArg Role.code (blockRole_rosterBlock r a)
  rwa [blockRole, Role.code_ofCode (Nat.mod_lt _ (by decide)), hblock] at hrole

theorem queuePlace_eq (q : List Addr) (i : Nat) : queuePlace q i = ((q[i]?).map Fin.val).getD 0 := by
  unfold queuePlace
  cases q[i]? <;> rfl

/-- The seven bytes of the join queue, two places to a byte. -/
def queueBytes (q : List Addr) : List Byte :=
  (List.range 7).map (fun i => nibbles (queuePlace q (2 * i)) (queuePlace q (2 * i + 1)))

theorem joinQueueBytes_eq (q : List Addr) : joinQueueBytes q = natByte q.length :: queueBytes q := rfl

theorem queueBytes_getD (q : List Addr) (i : Fin 7) :
    (queueBytes q).getD i.val 0 =
      BitVec.ofNat 8 (((q[2 * i.val]?).map Fin.val).getD 0 * 16 + ((q[2 * i.val + 1]?).map Fin.val).getD 0) := by
  rw [← queuePlace_eq, ← queuePlace_eq]
  simp [queueBytes, nibbles]

theorem State.readRoster_of_readable {s : State} (hread : s.readable = true) :
    s.readRoster = s.done s.rosterReply := if_pos hread

theorem State.readRoster_of_state {s : State} (hread : s.readable = false) : s.readRoster = s.refuse .state :=
  if_neg (Bool.eq_false_iff.mp hread)

/-! ## READ_STATION (R186, Table 10-7) -/

theorem evictionByte_eq (r : Option EvictReason) :
    evictionByte r = match r with | none => 0 | some .silent => 1 | some .mismatch => 2 := by
  rcases r with _ | _ | _ <;> rfl

theorem urgentByte_eq (d : Option UrgentDuty) :
    urgentByte d = match d with | none => 0 | some (.leave _) => 4 | some (.evict _ _) => 5 := by
  rcases d with _ | _ | _ <;> rfl

theorem syncByte_eq (d : Option SyncDuty) :
    syncByte d = match d with | none => 0 | some .found => 1 | some .joinReq => 2 | some (.snap _) => 3 := by
  rcases d with _ | _ | _ | _ <;> rfl

theorem SendEntry.bytes_eq :
    SendEntry.bytes = fun e =>
      [e.tag, natByte e.request.kind.code, if e.state = .inFlight then 2 else 1, natByte e.attempts] := by
  funext e
  unfold SendEntry.bytes
  cases e.state <;> rfl

/-- The kind and the claim state of the message in flight. -/
theorem flightBytes_eq (m : Option InFlight) :
    flightBytes m =
      [match m with | none => 0 | some f => natByte f.kind.code,
       match m with | none => 0 | some f => if f.claim = .won then 2 else 1] := by
  cases m with
  | none => rfl
  | some f => cases hclaim : f.claim <;> simp [flightBytes, hclaim]

theorem PeerRecord.bytes_length (p : PeerRecord) : p.bytes.length = 4 := rfl

theorem State.stationReply_length (s : State) :
    s.stationReply.length = 120 + 4 * s.sendQueue.entries.length := by
  have hpeers : (allAddrs.flatMap fun a => (s.monitor.peers.get a).bytes).length = 4 * 16 :=
    flatMap_length_of_const _ _ 4 fun a => (s.monitor.peers.get a).bytes_length
  have hentries : (s.sendQueue.entries.flatMap SendEntry.bytes).length = 4 * s.sendQueue.entries.length :=
    flatMap_length_of_const _ _ 4 fun _ => rfl
  have hflight : (flightBytes s.selector.inFlight).length = 2 := by rw [flightBytes_eq]; rfl
  simp only [State.stationReply, Controller.bytes, Monitor.bytes, Line.bytes, counterBytes, bytes16, Selector.bytes,
    SendQueue.bytes, EventQueue.bytes, Policy.bytes, bytes64, List.length_append, List.length_cons, List.length_nil,
    hpeers, hentries, hflight]
  omega

end Sys2Proof.Machine

open Sys2Proof Sys2Proof.Machine

/-- Settles O15: the blocks RESET leaves are those of the reset value, in which no record waits and no cycle runs. -/
theorem resetCommand : Obligations.ResetCommand := by
  intro s p hrun hp
  refine ⟨_, exec_command_done (i := .reset) rfl rfl hrun hp (t := s.resetBlocks) rfl, rfl, ?_, fun bit => ?_⟩
  · exact Bool.and_false _
  · exact State.released_of_waiting rfl bit

/-- Settles O19: by the zone the first byte names. -/
theorem policyCommands : Obligations.PolicyCommands := by
  refine fun s p zone flag hrun => ⟨fun h hp => ?veto, fun h hp => ?watch, fun h hp => ?vetoRange,
    fun h hp => ?watchRange⟩
  case veto =>
    exact ⟨_, exec_command_done rfl rfl hrun hp (State.writeVeto_of_lt h), fun z => zoneFlag_setZoneFlag _ _ z _⟩
  case watch =>
    exact ⟨_, exec_command_done rfl rfl hrun hp (State.writeWatch_of_lt h), fun z => zoneFlag_setZoneFlag _ _ z _⟩
  case vetoRange => exact exec_command_refused rfl rfl hrun hp (State.writeVeto_of_range h)
  case watchRange => exact exec_command_refused rfl rfl hrun hp (State.writeWatch_of_range h)

/-- Settles O20: each reply is the layout of its table; where the replica is not read, or the zone is out of range, a
code alone. -/
theorem readCommands : Obligations.ReadCommands := by
  refine ⟨fun s p zone hrun hp => ⟨fun hst h => ?zone, fun hst h => ?zoneRange, fun hs hl hd => ?zoneState⟩,
    fun s p hrun hp => ⟨fun hst => ?roster, fun hs hl hd => ?rosterState⟩, fun s p hrun hp => ?station⟩
  case zone =>
    have hexec := exec_command_done (i := .readZone zone) rfl rfl hrun hp
      (State.readZone_of_lt (s.readable_iff.mpr hst) h)
    obtain ⟨hsmall, hloaded, hveto, hwatch⟩ := presence_bits (s.loadedFlag ⟨zone.toNat, h⟩)
      (zoneFlag s.policy.veto ⟨zone.toNat, h⟩) (zoneFlag s.policy.watch ⟨zone.toNat, h⟩)
    refine ⟨_, waitersBytes (s.zones.get ⟨zone.toNat, h⟩).queue, s.zoneFlagsByte ⟨zone.toNat, h⟩, hexec, ?_,
      waitersBytes_length _, fun i => ⟨fun w => waitersBytes_of_some, waitersBytes_of_none⟩, hsmall,
      hloaded.trans ?_, hveto, hwatch⟩
    · have hzone : natByte zone.toNat = zone := by simp [natByte]
      rw [State.zoneReply, hzone]
    · unfold State.loadedFlag
      cases s.ownRole <;> rfl
  case zoneRange =>
    exact exec_command_refused rfl rfl hrun hp (State.readZone_of_range (s.readable_iff.mpr hst) h)
  case zoneState => exact exec_command_refused rfl rfl hrun hp (State.readZone_of_state (State.not_readable hs hl hd))
  case roster =>
    have hexec := exec_command_done (i := .readRoster) rfl rfl hrun hp
      (State.readRoster_of_readable (s.readable_iff.mpr hst))
    refine ⟨_, rolesBytes s.roster.roles, queueBytes s.roster.joinQueue, hexec, ?_, rfl, rfl,
      rolesBytes_role s.roster, queueBytes_getD s.roster.joinQueue⟩
    rw [State.rosterReply, flagByte_bne, joinQueueBytes_eq]
    rfl
  case rosterState =>
    exact exec_command_refused rfl rfl hrun hp (State.readRoster_of_state (State.not_readable hs hl hd))
  case station =>
    refine ⟨_, exec_command_done rfl rfl hrun hp rfl, s.stationReply_length, ?_⟩
    -- the bytes block by block, both sides one list
    simp only [State.stationReply, Controller.bytes, Monitor.bytes, Line.bytes, Selector.bytes, SendQueue.bytes,
      evictionByte_eq, flagByte_beq, urgentByte_eq, syncByte_eq, flightBytes_eq, SendEntry.bytes_eq,
      List.append_assoc, List.cons_append, List.nil_append]
    rfl

/-- Settles O53: the zone table is cleared; every other form is read off the reset values. -/
theorem resetIsWellFormed : Obligations.ResetIsWellFormed := by
  show State.reset.wf = true
  have hzones : ZoneTable.wf State.reset.zones = true := cleared_wf
  have hcleared : State.reset.clearedOutside = true := by simp [State.clearedOutside, State.reset]
  have hranges : State.reset.inRange = true := by decide
  have hroster : State.reset.rosterFits = true := by decide
  simp only [State.wf, hzones, hcleared, hranges, hroster]
  rfl
end

section
/-! SUPPORT. The rows as a whole: a row of each kind answers a next state and leaves the queue of commands to the outside,
and a row that names a limit is its own point on a condition; the statements about the machine and about these rows
settled. -/

namespace Sys2Proof.Machine

/-! ## The queue of commands -/

theorem State.arriveStandby_pending (s : State) (reason : StateReason) : (s.arriveStandby reason).pending = s.pending :=
  congrArg Outer.pending (s.arriveStandby_outer reason)

theorem State.leaveCluster_pending (s : State) : s.leaveCluster.state.pending = s.pending := by
  unfold State.leaveCluster
  split
  case h_1 =>
    split
    · rfl
    · exact s.arriveStandby_pending .command
  all_goals rfl

/-- The block that owns a command leaves the queue of commands as it was, RESET too (R188). -/
theorem runCommand_pending (c : HostCommand) (p : List Byte) (s : State) :
    (runCommand c p s).state.pending = s.pending := by
  cases c with
  | leave => exact s.leaveCluster_pending
  | readStation | reset => rfl
  | _ =>
    -- one block updated, or a refusal, in each branch
    dsimp only [runCommand, State.configure, State.startStation, State.stopStation, State.joinStation,
      State.takeRequest, State.recall, State.writeVeto, State.writeWatch, State.readZone, State.readRoster,
      State.fetchEvent, State.ackEvent]
    repeat' split
    all_goals rfl

/-- What a row answers has the queue of commands it found: neither a reset nor a point of the line cycle takes from it
or adds to it. -/
theorem State.Answer.pending {s t : State} (h : s.Answer t) : t.pending = s.pending := by
  have outer {u : State} (hu : u.outer = s.outer) : u.pending = s.pending := congrArg Outer.pending hu
  cases h with
  | stays | port | hardwareReset => rfl
  | command c params p => exact runCommand_pending c params s
  | mark m => exact outer (s.takeMark_outer m)
  | lostMark => exact outer s.loseMark_outer
  | status slots => exact outer (s.takeStatus_outer slots)
  | selection => exact outer s.takeSelection_outer
  | arbitrationLoss bit => exact outer (s.loseAt_outer bit)
  | claimFault bit => exact outer (s.faultAt_outer bit)
  | claim read => exact outer (s.takeClaim_outer read)
  | messageMismatch bit => exact outer (s.mismatchAt_outer bit)
  | message m => exact outer (s.takeMessage_outer m)
  | ownedMismatch bit => exact outer (s.mismatchOwned_outer bit)
  | verdict a b => exact outer (s.takeVerdict_outer a b)

/-! ## The rows that name a limit -/

/-- The row of a mark is the taking of that mark. -/
theorem exec_markRow (m : Mark) (s : State) : exec (markRow m) s = .next (s.unlessReset (s.takeMark m)) := by
  cases m <;> rfl

/-- The row of the end of a cycle is the taking of that end. -/
theorem exec_endRow (e : CycleEnd) (s : State) : exec (endRow e) s = .next (s.unlessReset (s.takeEnd e)) := by
  cases e <;> rfl

/-- A point made where its limit is reached is the row of the point there, and no change elsewhere. -/
theorem next_unlessReset_ite (c : Prop) [Decidable c] (s t : State) :
    (.next (s.unlessReset (if c then t else s)) : Host.Outcome State Fault Refusal) =
      if c then .next (s.unlessReset t) else .next s := by
  split
  · rfl
  · exact congrArg Host.Outcome.next (ite_self s)

end Sys2Proof.Machine

open Sys2Proof Sys2Proof.Machine

/-- Settles O1: the command at the front is taken off, and the queue is otherwise that of the state. -/
theorem stepTakesFrontCommand : Obligations.StepTakesFrontCommand :=
  fun _ _ _ => step_of_cons rfl

/-- Settles O2: a row answers the state as it stands, a command taken by its port, or one of the points and findings of
the line cycle, and none of these changes the queue of commands. -/
theorem everyRowAnswersNext : Obligations.EveryRowAnswersNext := by
  intro c s
  obtain ⟨t, ht, hanswer⟩ := exec_answer c s
  exact ⟨t, ht, hanswer.pending⟩

/-- Settles O23: each row that names a limit is its point made on the condition that the limit is reached there. -/
theorem limitRowsAreTheirPoints : Obligations.LimitRowsAreTheirPoints := by
  intro s _
  refine ⟨fun z m => ?lease, fun slots => ?listen, fun slots => ?formation, fun slots => ?candidate,
    fun slots => ?divergence, fun bit => ?readback, fun a b => ?retry, fun e => ?stall, fun e => ?holdOff⟩
  case lease =>
    rw [exec_markRow]
    exact next_unlessReset_ite _ s (s.takeMark m)
  case listen | formation | candidate | divergence => exact next_unlessReset_ite _ s (s.takeStatus slots)
  case readback => exact next_unlessReset_ite _ s (s.mismatchOwned bit)
  case retry => exact next_unlessReset_ite _ s (s.takeVerdict a b)
  case stall | holdOff =>
    rw [exec_endRow]
    exact next_unlessReset_ite _ s (s.takeEnd e)
end

section
/-! SUPPORT. The stance of a station that acquires a replica and of one in DOUBT (R41, R42), and the statements about
them settled. -/

namespace Sys2Proof.Machine

variable {s : State} {bytes : MessageBytes}

/-- A message whose kind cannot be read is not intact (R32). -/
theorem State.intactTest_of_no_kind (h : kindOf bytes = none) : s.intactTest bytes = false := by
  rw [State.intactTest, h]

/-- R41: a station that acquires a replica accepts every intact message, and no other. -/
theorem State.stanceOn_of_acquiring (hacq : s.acquiring = true) (bytes : MessageBytes) :
    s.stanceOn bytes (s.intactTest bytes) = if s.intactTest bytes then .accept else .silent := by
  rcases s.acquiring_iff.mp hacq with hst | ⟨hst, hrole⟩
  · simp only [State.stanceOn, hst]
  · cases hkind : kindOf bytes with
    | none => simp [State.stanceOn, hst, hkind, State.intactTest_of_no_kind hkind]
    | some k => simp [State.stanceOn, hst, hkind, hrole]

/-- R42: a station in DOUBT accepts an intact LEAVE and an intact EVICT, and no other. -/
theorem State.stanceOn_of_doubt (hst : s.station = .doubt) (intact : Bool) :
    s.stanceOn bytes intact =
      if intact = true ∧ (kindOf bytes = some .leave ∨ kindOf bytes = some .evict) then .accept else .silent := by
  cases hkind : kindOf bytes with
  | none => simp [State.stanceOn, hst, hkind]
  | some k => simp [State.stanceOn, hst, hkind, doubtAccepts]

end Sys2Proof.Machine

open Sys2Proof Sys2Proof.Machine

/-- Settles O38: the point leaves the stance of the local state, which in both states is that of R41. -/
theorem acquiringStance : Obligations.AcquiringStance := by
  intro bytes s cls addr hrun hcan hactive hclaim hst
  obtain ⟨t, hexec, hstance⟩ := exec_messageSegment_stance hcan hactive hclaim hrun bytes
  have hon := State.stanceOn_of_acquiring (s.acquiring_iff.mpr hst) bytes
  exact ⟨t, hexec, hstance _ (by split <;> decide) hon⟩

/-- Settles O39: the point leaves the stance of R42 in DOUBT, however the station came to it. -/
theorem doubtStance : Obligations.DoubtStance := by
  intro bytes s cls addr hrun hcan hactive hclaim hst
  obtain ⟨t, hexec, hstance⟩ := exec_messageSegment_stance hcan hactive hclaim hrun bytes
  have hon := State.stanceOn_of_doubt (bytes := bytes) hst (s.intactTest bytes)
  exact ⟨t, hexec, hstance _ (by split <;> decide) hon⟩
end

section
/-! SUPPORT. The layouts of the peer line read back (Tables 11-2 to 11-4): a message formed and a status slot driven,
and the statement about them settled. -/

namespace Sys2Proof.Machine

/-! ## The bytes of a message (Tables 11-3, 11-4) -/

theorem vectorOf_toList (n : Nat) (l : List Byte) (h : l.length = n) : (vectorOf n l).toList = l := by
  subst h
  exact List.ext_getElem (by simp) fun i hi hl => by simp [vectorOf, tabulate]

/-- A list no longer than the table is padded with 0. -/
theorem vectorOf_toList_of_le {n : Nat} {l : List Byte} (h : l.length ≤ n) :
    (vectorOf n l).toList = l ++ List.replicate (n - l.length) 0 := by
  refine List.ext_getElem (by simp; omega) fun i _ _ => ?_
  simp [vectorOf, tabulate, List.getElem_append, List.getD_eq_getElem?_getD]
  split <;> simp_all

/-- The header and payload of a message, which its check value covers (R31). -/
def messageBody (k : Kind) (sender : Addr) (basis : Byte) (payload : List Byte) : List Byte :=
  nibbles k.code sender.val :: basis :: (vectorOf 16 payload).toList

section
variable (k : Kind) (sender : Addr) (basis : Byte) (payload : List Byte)

theorem messageBody_length : (messageBody k sender basis payload).length = 18 := by
  simp [messageBody]

theorem formMessage_toList :
    (formMessage k sender basis payload).toList =
      messageBody k sender basis payload ++ bytes16 (crc (messageBody k sender basis payload)) :=
  vectorOf_toList 20 _ (by rw [List.length_append]; simp [bytes16])

theorem formMessage_get (i : Fin 20) :
    (formMessage k sender basis payload).get i =
      (messageBody k sender basis payload ++ bytes16 (crc (messageBody k sender basis payload))).getD i.val 0 :=
  tabulate_get _ i

/-- R31: the check value formed is the one the check finds. -/
theorem crcPasses_formMessage : crcPasses (formMessage k sender basis payload) = true := by
  have hlen := messageBody_length k sender basis payload
  have hbody : (formMessage k sender basis payload).toList.take 18 = messageBody k sender basis payload := by
    rw [formMessage_toList, ← hlen, List.take_left]
  have hcheck (i : Fin 20) (hi : 18 ≤ i.val) :
      (formMessage k sender basis payload).get i =
        (bytes16 (crc (messageBody k sender basis payload))).getD (i.val - 18) 0 := by
    rw [formMessage_get, List.getD_append_right _ _ _ _ (hlen ▸ hi), hlen]
  rw [crcPasses, hbody, hcheck 18 (by decide), hcheck 19 (by decide), beq_iff_eq]
  exact (word16_bytes16 _).symm

theorem payloadOf_formMessage :
    payloadOf (formMessage k sender basis payload) = (vectorOf 16 payload).toList := by
  rw [payloadOf, formMessage_toList, messageBody]
  simp

theorem senderOf_formMessage : senderOf (formMessage k sender basis payload) = sender := by
  rw [senderOf, formMessage_get]
  exact lowNibble_nibbles (by cases k <;> decide) sender

theorem kindOf_formMessage : kindOf (formMessage k sender basis payload) = some k := by
  rw [kindOf, formMessage_get]
  have hlt : k.code < 16 := by cases k <;> decide
  have hcode : highNibble (nibbles k.code sender.val) = ⟨k.code, hlt⟩ :=
    highNibble_nibbles ⟨k.code, hlt⟩ sender.isLt
  show Kind.ofCode (highNibble (nibbles k.code sender.val)).val = some k
  rw [hcode]
  cases k <;> rfl

theorem basisOf_formMessage : basisOf (formMessage k sender basis payload) = basis :=
  formMessage_get k sender basis payload 1

end

/-! ## The status slot (Table 11-2) -/

/-- A mode that a station drives has one of the codes of three bits. -/
theorem SlotMode.code_lt {m : SlotMode} (h : m ≠ .unknown) : m.code < 8 := by
  cases m with
  | unknown => exact absurd rfl h
  | standby | seeking | joining | synced | doubt => decide

theorem SlotMode.ofCode_code {m : SlotMode} (h : m ≠ .unknown) : SlotMode.ofCode m.code = m := by
  cases m with
  | unknown => exact absurd rfl h
  | standby | seeking | joining | synced | doubt => rfl

/-- The mode code stands above the twelve counter bits, and below the start bit, which is dominant. -/
theorem slotWord_toNat (d : SlotDrive) (h : d.mode ≠ .unknown) :
    (slotWord d).toNat = d.mode.code * 4096 + d.counter.toNat ∧ d.mode.code < 8 := by
  have hcode := SlotMode.code_lt h
  have hcounter := d.counter.isLt
  refine ⟨?_, hcode⟩
  rw [slotWord, BitVec.toNat_ofNat]
  omega

theorem slotPresent_slotWord {d : SlotDrive} (h : d.mode ≠ .unknown) : slotPresent (slotWord d) = true := by
  obtain ⟨hword, hcode⟩ := slotWord_toNat d h
  have hcounter := d.counter.isLt
  have hlt : (slotWord d).toNat < 2 ^ 15 := by omega
  simp [slotPresent, BitVec.getLsbD, Nat.testBit_lt_two_pow hlt]

theorem slotMode_slotWord {d : SlotDrive} (h : d.mode ≠ .unknown) : slotMode (slotWord d) = d.mode := by
  obtain ⟨hword, hcode⟩ := slotWord_toNat d h
  have hcounter := d.counter.isLt
  have hbits : ((slotWord d).extractLsb' 12 3).toNat = d.mode.code := by
    rw [BitVec.extractLsb'_toNat, Nat.shiftRight_eq_div_pow, hword]
    omega
  rw [slotMode, hbits, SlotMode.ofCode_code h]

theorem slotCounter_slotWord {d : SlotDrive} (h : d.mode ≠ .unknown) : slotCounter (slotWord d) = d.counter := by
  obtain ⟨hword, hcode⟩ := slotWord_toNat d h
  have hcounter := d.counter.isLt
  apply BitVec.eq_of_toNat_eq
  rw [slotCounter, BitVec.extractLsb'_toNat, Nat.shiftRight_eq_div_pow, hword]
  omega

end Sys2Proof.Machine

open Sys2Proof Sys2Proof.Machine

/-- Settles O52: each field of a message stands where its reading looks for it, the check value is formed over the
bytes it is checked over, and a slot's mode and counter do not overlap. -/
theorem lineLayoutsReadBack : Obligations.LineLayoutsReadBack := by
  refine ⟨fun k sender basis payload hlen => ?message, fun d hmode => ?slot⟩
  case message =>
    exact ⟨kindOf_formMessage k sender basis payload, senderOf_formMessage k sender basis payload,
      basisOf_formMessage k sender basis payload,
      (payloadOf_formMessage k sender basis payload).trans (vectorOf_toList_of_le hlen),
      crcPasses_formMessage k sender basis payload⟩
  case slot => exact ⟨slotPresent_slotWord hmode, slotMode_slotWord hmode, slotCounter_slotWord hmode⟩
end

section
/-! SUPPORT. The verdict point of a cycle in which the owned verdict bits do not fault the station, in every local
state: the state its decision is made in, the decision, and the stall count after it (R34, R46, R47, R91). -/

namespace Sys2Proof.Machine

/-! ## The state the decision is made in -/

section
variable (s : State) (a b : VerdictCopy)

theorem State.ownedMismatch_disagreements :
    s.ownedMismatch.line.counters.copyDisagreements = s.line.counters.copyDisagreements := by
  unfold State.ownedMismatch
  dsimp only
  split
  · rfl
  · split <;> rfl

theorem State.settleRun_disagreements :
    s.settleRun.line.counters.copyDisagreements = s.line.counters.copyDisagreements := by
  obtain ⟨run, wait, h⟩ := s.settleRun_shape
  rw [h]
  rfl

/-- R146: the readback of the verdict bits counts no disagreement. -/
theorem State.readBackVerdict_disagreements :
    (s.readBackVerdict a b).line.counters.copyDisagreements = s.line.counters.copyDisagreements := by
  unfold State.readBackVerdict
  split
  · split
    · exact s.settleRun_disagreements
    · split
      · exact s.ownedMismatch_disagreements
      · split <;> rfl
  · rfl

theorem State.readVerdict_disagreements :
    (s.readVerdict a b).line.counters.copyDisagreements = s.line.counters.copyDisagreements := by
  have hcopies : (s.copiesRead a b).line = (s.makePoint .verdict 499).line := by
    unfold State.copiesRead
    dsimp only
    split <;> rfl
  rw [State.readVerdict_eq, State.readBackVerdict_disagreements, hcopies]
  rfl

/-- R47: two copies that differ in a cycle with a claim are counted. -/
def Line.disagreementsWith (l : Line) : Nat :=
  if l.claimActive ∧ a ≠ b then lineCount l.counters.copyDisagreements else l.counters.copyDisagreements

end

theorem State.compareCopies_disagreements (s : State) (a b : VerdictCopy) :
    (s.compareCopies a b).line.counters.copyDisagreements = s.line.disagreementsWith a b := by
  unfold State.compareCopies Line.disagreementsWith
  split <;> rfl

theorem State.SameCycle.station_eq {s t : State} (h : s.SameCycle t) : t.station = s.station := by
  cases h
  rfl

theorem State.SameCycle.claimActive_eq {s t : State} (h : s.SameCycle t) :
    t.line.claimActive = s.line.claimActive := by
  obtain ⟨v, l, -, hline⟩ := h
  exact hline.claimActive

/-- A station in FAULTED owns no verdict bit, so that it survives every verdict point. -/
theorem State.readVerdict_sameCycle {s : State} {a b : VerdictCopy} (h : s.survives a b = true) :
    s.SameCycle (s.readVerdict a b) := by
  by_cases hst : s.station = .faulted
  · have howns : (s.copiesRead a b).ownsBits = false := by
      simp [State.ownsBits, (s.copiesRead_sameCycle a b).station_eq, hst]
    refine (s.copiesRead_sameCycle a b).trans ?_
    rw [State.readVerdict_eq]
    unfold State.readBackVerdict
    split
    · simpa only [howns, or_true, if_true] using State.settleRun_sameCycle _
    · exact .refl _
  · exact State.readVerdict_of_survives h hst

/-- A station that takes no stance owns no verdict bit. -/
theorem State.survives_of_no_stance {s : State} (h : s.verdict.stance = .notTaken) (a b : VerdictCopy) :
    s.survives a b = true := by
  simp [State.survives, (State.readVerdict_of_no_stance h a b).station_eq]

/-- The state in which the decision of the cycle is made: the Verdict Unit, the line, the hold-offs and the served flag
are all that the point has changed before it, and in a cycle with a winner the served flag stands. -/
inductive State.AtDecision (s : State) (a b : VerdictCopy) : State → Prop
  | mk (x : Selector) (v : VerdictUnit) (l : Line) (flight : x.inFlight = s.selector.inFlight)
      (held : ∀ cls addr, s.verdict.claim = some (.winner cls addr) → x = s.runHoldOffs.selector)
      (claim : v.claim = s.verdict.claim) (message : s.line.SameMessage l)
      (disagreements : l.counters.copyDisagreements = s.line.disagreementsWith a b) :
      s.AtDecision a b (((s.setSelector x).setVerdict v).setLine l)

theorem State.runHoldOffs_flight (s : State) : s.runHoldOffs.selector.inFlight = s.selector.inFlight := by
  unfold State.runHoldOffs
  split <;> rfl

theorem State.runHoldOffs_eq (s : State) : s.runHoldOffs = s.setSelector s.runHoldOffs.selector := by
  unfold State.runHoldOffs
  split <;> rfl

/-- The hold-offs run are those of the local state and the selector alone. -/
theorem State.runHoldOffs_selector_of_same (s : State) (v : VerdictUnit) (l : Line) :
    ((s.setVerdict v).setLine l).runHoldOffs.selector = s.runHoldOffs.selector := by
  have hst : ((s.setVerdict v).setLine l).station = s.station := rfl
  unfold State.runHoldOffs
  rw [hst]
  cases s.station <;> rfl

theorem State.clearServed_cases (s : State) :
    s.clearServed = s ∨ s.clearServed = s.setSelector { s.selector with served := false } := by
  unfold State.clearServed
  split
  · exact .inr rfl
  · exact .inl rfl

/-- The verdict point up to the decision. -/
theorem State.reachVerdict_atDecision {s : State} {a b : VerdictCopy} (h : s.survives a b = true) :
    s.AtDecision a b (s.reachVerdict a b) := by
  have hsame := (State.readVerdict_sameCycle h).trans ((s.readVerdict a b).compareCopies_sameCycle a b)
  have hcount : ((s.readVerdict a b).compareCopies a b).line.counters.copyDisagreements =
      s.line.disagreementsWith a b := by
    rw [State.compareCopies_disagreements, Line.disagreementsWith, State.readVerdict_disagreements,
      (State.readVerdict_sameCycle h).claimActive_eq, Line.disagreementsWith]
  rw [State.reachVerdict]
  generalize (s.readVerdict a b).compareCopies a b = t at hsame hcount
  obtain ⟨v, l, hclaim, hline⟩ := hsame
  rw [State.runHoldOffs_eq, State.runHoldOffs_selector_of_same]
  rcases State.clearServed_cases (((s.setVerdict v).setLine l).setSelector s.runHoldOffs.selector) with hc | hc
  · rw [hc]
    exact .mk s.runHoldOffs.selector v l s.runHoldOffs_flight (fun _ _ _ => rfl) hclaim hline hcount
  · refine hc ▸ .mk _ v l s.runHoldOffs_flight (fun cls addr hwin => ?_) hclaim hline hcount
    have hstay := State.clearServed_of_winner
      (s := ((s.setVerdict v).setLine l).setSelector s.runHoldOffs.selector) (hclaim.trans hwin)
    exact congrArg State.selector (hc.symm.trans hstay)

namespace State.AtDecision

variable {s t : State} {a b : VerdictCopy}

/-- The state of the decision differs from the one before the point in the selector, in what the reading of the copies
leaves, and in nothing else. -/
theorem sameCycle (h : s.AtDecision a b t) : ∃ x : Selector, x.inFlight = s.selector.inFlight
    ∧ (s.setSelector x).SameCycle t := by
  obtain ⟨x, v, l, hflight, -, hclaim, hline, -⟩ := h
  exact ⟨x, hflight, .mk v l hclaim hline⟩

/-- R43: the decision reads nothing of the selector but the message in flight. -/
theorem setSelector_commits {x : Selector} (hx : x.inFlight = s.selector.inFlight) (copy : VerdictCopy) :
    (s.setSelector x).commits copy = s.commits copy := by
  obtain ⟨urgent, sync, seekHold, snapHold, served, flight⟩ := x
  obtain rfl : flight = s.selector.inFlight := hx
  rfl

theorem setSelector_cycleMessage {x : Selector} (hx : x.inFlight = s.selector.inFlight) :
    (s.setSelector x).cycleMessage = s.cycleMessage := by
  obtain ⟨urgent, sync, seekHold, snapHold, served, flight⟩ := x
  obtain rfl : flight = s.selector.inFlight := hx
  rfl

theorem commits_eq (h : s.AtDecision a b t) (copy : VerdictCopy) : t.commits copy = s.commits copy := by
  obtain ⟨x, hx, hsame⟩ := h.sameCycle
  rw [hsame.commits_eq, setSelector_commits hx]

theorem cycleMessage_eq (h : s.AtDecision a b t) : t.cycleMessage = s.cycleMessage := by
  obtain ⟨x, hx, hsame⟩ := h.sameCycle
  rw [hsame.cycleMessage_eq, setSelector_cycleMessage hx]

theorem flight_eq (h : s.AtDecision a b t) : t.selector.inFlight = s.selector.inFlight := by
  obtain ⟨x, v, l, hflight, -⟩ := h
  exact hflight

theorem claim_eq (h : s.AtDecision a b t) : t.verdict.claim = s.verdict.claim := by
  obtain ⟨x, v, l, -, -, hclaim, -⟩ := h
  exact hclaim

theorem intact_eq (h : s.AtDecision a b t) : t.line.intact = s.line.intact := by
  obtain ⟨x, v, l, -, -, -, hline, -⟩ := h
  exact hline.intact

theorem station_eq (h : s.AtDecision a b t) : t.station = s.station := by
  cases h
  rfl

theorem sendQueue_eq (h : s.AtDecision a b t) : t.sendQueue = s.sendQueue := by
  cases h
  rfl

theorem controller_eq (h : s.AtDecision a b t) : t.controller = s.controller := by
  cases h
  rfl

theorem acquiring_eq (h : s.AtDecision a b t) : t.acquiring = s.acquiring := by
  cases h
  rfl

theorem wonSource_eq (h : s.AtDecision a b t) : t.wonSource = s.wonSource := by
  rw [State.wonSource, h.flight_eq]
  rfl

theorem decides_eq (h : s.AtDecision a b t) : t.decides = s.decides := by
  rw [State.decides, State.claimHeldWinner, h.claim_eq, h.station_eq, State.won, h.flight_eq]
  rfl

theorem decision_eq (h : s.AtDecision a b t) : t.decision a b = s.decision a b := by
  rw [State.decision, h.decides_eq, h.commits_eq, h.commits_eq]
  rfl

/-- R128: an attempt exhausts its entry by the decision, the source and the send queue. -/
theorem exhausts_eq (h : s.AtDecision a b t) : t.exhausts a b = s.exhausts a b := by
  unfold State.exhausts State.atRetryLimit
  rw [h.station_eq, h.decision_eq, h.wonSource_eq, h.sendQueue_eq, h.controller_eq]

end State.AtDecision

/-- The verdict point of a station that its verdict bits do not fault: the decision, the stall count, and the message
in flight dropped. -/
theorem State.takeVerdict_of_survives {s : State} {a b : VerdictCopy} (hcan : s.canMake .verdict = true)
    (h : s.survives a b = true) :
    ∃ t, s.AtDecision a b t ∧ s.reachVerdict a b = t
      ∧ s.takeVerdict a b = ((t.judge a b).updateStall t a b).dropFlight :=
  ⟨_, State.reachVerdict_atDecision h, rfl, by rw [State.takeVerdict, if_pos hcan]⟩

theorem exec_verdictPoint_of_survives {s : State} {a b : VerdictCopy} (hrun : s.running)
    (hcan : s.canMake .verdict = true) (h : s.survives a b = true) :
    ∃ t, s.AtDecision a b t
      ∧ exec (.verdictPoint a b) s = .next ((t.judge a b).updateStall t a b).dropFlight := by
  obtain ⟨t, hat, -, htake⟩ := State.takeVerdict_of_survives hcan h
  exact ⟨t, hat, by rw [exec_verdictPoint hrun, htake]⟩

/-! ## The decision -/

section
variable {s : State} {a b : VerdictCopy} {cls : BitVec 2} {addr : Addr}

theorem State.decides_of_cluster (hclaim : s.verdict.claim = some (.winner cls addr))
    (hst : s.station = .synced ∨ s.station = .leaving ∨ s.station = .joining ∨ s.station = .doubt) :
    s.decides = true := by
  rcases hst with hst | hst | hst | hst <;> simp [State.decides, State.claimHeldWinner, hclaim, hst]

theorem State.canDoubt_iff (s : State) :
    s.canDoubt = true ↔ s.station = .synced ∨ s.station = .leaving ∨ s.station = .joining := by
  simp [State.canDoubt, or_assoc]

theorem State.decides_of_canDoubt (hclaim : s.verdict.claim = some (.winner cls addr)) (h : s.canDoubt = true) :
    s.decides = true :=
  State.decides_of_cluster hclaim
    ((s.canDoubt_iff.mp h).imp_right fun hst => hst.imp_right Or.inl)

theorem State.decides_of_seeking_winner {m : InFlight} (hclaim : s.verdict.claim = some (.winner cls addr))
    (hst : s.station = .seeking) (hflight : s.selector.inFlight = some m) (hwon : m.claim = .won) :
    s.decides = true := by
  simp [State.decides, State.claimHeldWinner, hclaim, hst, State.won, hflight, hwon]

theorem State.decision_of_committed (hdec : s.decides = true) (ha : s.commits a = true) (hb : s.commits b = true) :
    s.decision a b = some .committed := by
  simp [State.decision, hdec, ha, hb]

theorem State.decision_of_not_committed (hdec : s.decides = true) (ha : s.commits a = false)
    (hb : s.commits b = false) : s.decision a b = some .notCommitted := by
  simp [State.decision, hdec, ha, hb]

theorem State.decision_of_differ (hdec : s.decides = true) (h : s.commits a ≠ s.commits b) :
    s.decision a b = some .disagree := by
  cases ha : s.commits a <;> cases hb : s.commits b <;> simp_all [State.decision]

theorem State.decision_of_not_decides (h : s.decides = false) (a b : VerdictCopy) : s.decision a b = none := by
  simp [State.decision, h]

theorem State.judge_of_committed (h : s.decision a b = some .committed) : s.judge a b = s.onCommitted := by
  rw [State.judge, h]

theorem State.judge_of_differ (h : s.decision a b = some .disagree) :
    s.judge a b = if s.canDoubt then s.enterDoubt .copyDisagree else s := by
  rw [State.judge, h]

theorem State.wonSource_of_won {m : InFlight} (hflight : s.selector.inFlight = some m) (hwon : m.claim = .won) :
    s.wonSource = some m.source := by
  simp [State.wonSource, hflight, hwon]

/-- R48: an objection is the outcome of the attempt, whatever the copies lack. -/
theorem State.judge_of_objected {source : Source} (h : s.decision a b = some .notCommitted)
    (hsource : s.wonSource = some source) (hobj : a.object ||| b.object ≠ 0) :
    s.judge a b = s.onObjected source (a.object ||| b.object) := by
  rw [State.judge, h]
  show s.onNotCommitted a b = _
  rw [State.onNotCommitted, hsource]
  exact if_neg hobj

theorem State.judge_of_lacking {source : Source} (h : s.decision a b = some .notCommitted)
    (hsource : s.wonSource = some source) (hobj : a.object ||| b.object = 0) :
    s.judge a b = s.onLacking source (s.nonAccepting a b) := by
  rw [State.judge, h]
  show s.onNotCommitted a b = _
  rw [State.onNotCommitted, hsource]
  exact if_pos hobj

/-! ## The stall count (R91) -/

theorem State.updateStall_of_not_acquiring {t : State} (h : t.acquiring = false) (s : State) :
    s.updateStall t a b = s := by
  simp [State.updateStall, h]

/-- A station that the decision made leave the cluster has no stall count to keep. -/
theorem State.updateStall_of_outside (h : s.station = .seeking ∨ s.station = .standby) (t : State) :
    s.updateStall t a b = s := by
  rcases h with h | h <;> simp [State.updateStall, State.acquiring, h]

/-- A doubt keeps the stall count for DOUBT: 0 after a SNAP decided committed, one more after any other cycle. -/
theorem State.updateStall_of_doubt {t : State} (hst : s.station = .doubt) :
    s.updateStall t a b =
      s.setSnapshot
        { s.snapshot with
          stall :=
            if t.acquiring = true then
              if t.snapCommitted a b = true then 0 else min (s.snapshot.stall + 1) 128
            else s.snapshot.stall } := by
  have hacq : s.acquiring = false := by simp [State.acquiring, hst]
  cases ht : t.acquiring with
  | false => exact State.updateStall_of_not_acquiring ht s
  | true =>
    have hcount : s.countStall = s.setSnapshot { s.snapshot with stall := min (s.snapshot.stall + 1) 128 } := rfl
    cases hsnap : t.snapCommitted a b <;> simp [State.updateStall, ht, hst, hacq, hsnap, hcount]

theorem State.acquiring_of_station
    (h : s.station = .offline ∨ s.station = .standby ∨ s.station = .seeking ∨ s.station = .synced
      ∨ s.station = .doubt ∨ s.station = .faulted) : s.acquiring = false := by
  rcases h with h | h | h | h | h | h <;> simp [State.acquiring, h]

end

end Sys2Proof.Machine
end

section
/-! SUPPORT. A host request whose cycle did not commit (R48, R127, R128), and the statement about the sender's view
settled. -/

namespace Sys2Proof.Machine

variable {s : State} {a b : VerdictCopy} {tag : Byte} {e : SendEntry}

theorem State.endEntry_of_find (h : s.sendQueue.find tag = some e) (o : RequestOutcome) (position : Option Nat)
    (set : Option StationSet) (commit : Option (BitVec 16)) :
    s.endEntry tag o position set commit =
      (s.setSendQueue (s.sendQueue.drop tag)).place (e.result o position set commit) := by
  rw [State.endEntry, h]

/-- R127: with the message in flight every entry is WAITING again. -/
theorem State.dropFlight_find (s : State) (tag : Byte) :
    s.dropFlight.sendQueue.find tag = (s.sendQueue.find tag).map fun e => { e with state := .waiting } :=
  List.find?_map ..

theorem State.dropFlight_find_none (h : s.sendQueue.find tag = none) : s.dropFlight.sendQueue.find tag = none := by
  rw [State.dropFlight_find, h, Option.map_none]

/-- R128: an entry with one more attempt counted, WAITING again. -/
def SendEntry.retried (e : SendEntry) : SendEntry :=
  { e with attempts := e.attempts + 1, state := .waiting }

/-- R128: an attempt that lacked acceptance, below the retry limit and at it, in SYNCED. -/
theorem State.countAttempt_below (hst : s.station = .synced) (h : s.sendQueue.find tag = some e)
    (hlimit : e.attempts + 1 < s.controller.config.retryLimit) (set : StationSet) :
    s.countAttempt tag set = s.setSendQueue (s.sendQueue.change tag SendEntry.retried) := by
  have hbelow : s.atRetryLimit e = false := decide_eq_false (Nat.not_le_of_lt hlimit)
  have hretried : SendEntry.retried = fun e => { e with attempts := e.attempts + 1, state := .waiting } := rfl
  simp [State.countAttempt, h, hst, hbelow, hretried]

theorem State.countAttempt_at_limit (hst : s.station = .synced) (h : s.sendQueue.find tag = some e)
    (hlimit : s.controller.config.retryLimit ≤ e.attempts + 1) (set : StationSet) :
    s.countAttempt tag set =
      (s.setSendQueue (s.sendQueue.drop tag)).place (e.result .failed none (some set) none) := by
  have hat : s.atRetryLimit e = true := decide_eq_true hlimit
  rw [← State.endEntry_of_find h]
  simp [State.countAttempt, h, hst, hat]

/-- R48: in SYNCED the non-accepting set is what the copies lack of the set that the roster gives. -/
theorem State.nonAccepting_of_synced (hst : s.station = .synced) (a b : VerdictCopy) :
    s.nonAccepting a b = without (s.roster.required s.cycleMessage) (a.accept &&& b.accept) := by
  simp [State.nonAccepting, State.needed, State.acceptance, State.ownFound, State.holdsRoster, hst]

theorem State.exhausts_of_limit (hst : s.station = .synced) (hdecision : s.decision a b = some .notCommitted)
    (hsource : s.wonSource = some (.entry tag)) (hfind : s.sendQueue.find tag = some e)
    (hobj : a.object ||| b.object = 0) (hlimit : s.controller.config.retryLimit ≤ e.attempts + 1) :
    s.exhausts a b = true := by
  have hset : objectors a b = 0 := hobj
  simp [State.exhausts, hst, hdecision, hset, hsource, hfind, State.atRetryLimit, hlimit]

/-- RETRY_LIMIT_REACHED is the verdict point at which an attempt exhausts its entry. -/
theorem exec_retryLimitReached (hrun : s.running) (hcan : s.canMake .verdict = true) (hsurv : s.survives a b = true)
    (h : s.exhausts a b = true) : exec (.retryLimitReached a b) s = exec (.verdictPoint a b) s := by
  have hreach := (State.reachVerdict_atDecision hsurv).exhausts_eq.trans h
  have hlimit : (s.canMake .verdict && (s.reachVerdict a b).exhausts a b) = true := by rw [hcan, hreach]; rfl
  rw [exec_verdictPoint hrun]
  exact congrArg Host.Outcome.next ((State.unlessReset_of_running hrun).trans (if_pos hlimit))

end Sys2Proof.Machine

open Sys2Proof Sys2Proof.Machine

/-- Settles O46: the decision is not committed, and the objector set, the attempts and the retry limit say how the
entry that won ends or stays; the point then only drops the message in flight. -/
theorem senderViewNotCommitted : Obligations.SenderViewNotCommitted := by
  refine ⟨fun a b s m tag e cls addr hrun hcan hst hsurv hclaim hflight hwon hsource hfind ha hb => ?below,
    fun a b s m tag e cls addr hrun hcan hst hsurv hclaim hflight hwon hsource hfind ha hb hobja hobjb hlimit =>
      ?limit⟩
  all_goals
    have hdecision := State.decision_of_not_committed (State.decides_of_cluster hclaim (.inl hst)) ha hb
    have hwin := hsource ▸ State.wonSource_of_won hflight hwon
    have hacq : s.acquiring = false := by simp [State.acquiring, hst]
    obtain ⟨t, hat, hexec⟩ := exec_verdictPoint_of_survives hrun hcan hsurv
    have hstill := State.updateStall_of_not_acquiring (a := a) (b := b) (hat.acquiring_eq.trans hacq)
    have hdec := hat.decision_eq.trans hdecision
    have hsrc := hat.wonSource_eq.trans hwin
    have hfindt : t.sendQueue.find tag = some e := hat.sendQueue_eq ▸ hfind
    have hstt := hat.station_eq.trans hst
    have hcontroller := hat.controller_eq
    rw [hstill] at hexec
  case below =>
    refine ⟨fun hobj => ?objected, fun hobj hlimit => ?lacking⟩
    case objected =>
      rw [State.judge_of_objected hdec hsrc hobj, State.onObjected, State.endEntry_of_find hfindt] at hexec
      obtain ⟨x, v, l⟩ := hat
      exact ⟨_, hexec, State.dropFlight_find_none (SendQueue.find_drop _ _), rfl, rfl, rfl, hst⟩
    case lacking =>
      rw [State.judge_of_lacking hdec hsrc hobj, State.onLacking,
        State.countAttempt_below hstt hfindt (hcontroller ▸ hlimit)] at hexec
      obtain ⟨x, v, l⟩ := hat
      refine ⟨_, hexec, ?_, rfl, rfl, rfl, hst⟩
      have hchange := SendQueue.find_change (fun e => rfl : ∀ e, (SendEntry.retried e).tag = e.tag) hfind
      exact (State.dropFlight_find _ tag).trans (congrArg (Option.map _) hchange)
  case limit =>
    have hobj : a.object ||| b.object = 0 := by simp [hobja, hobjb]
    have hexhausts := State.exhausts_of_limit hst hdecision hwin hfind hobj hlimit
    have hset := State.nonAccepting_of_synced hstt a b
    rw [hat.cycleMessage_eq] at hset
    rw [State.judge_of_lacking hdec hsrc hobj, hset, State.onLacking,
      State.countAttempt_at_limit hstt hfindt (hcontroller ▸ hlimit),
      ← exec_retryLimitReached hrun hcan hsurv hexhausts] at hexec
    obtain ⟨x, v, l⟩ := hat
    exact ⟨_, hexec, State.dropFlight_find_none (SendQueue.find_drop _ _), rfl, rfl, rfl, hst⟩
end

section
/-! SUPPORT. The decision from one copy as its required set gives it (R43 to R46), the verdict points that end in DOUBT
or decide nothing (R46, R47, R91), and the statement about them settled. -/

namespace Sys2Proof.Machine

/-! ## The message the station decides on (R32, R47) -/

section
variable {s : State} {sender : Addr} {bytes : MessageBytes}

theorem State.knownMessage_of_decides (h : s.station ≠ .seeking ∧ s.station ≠ .doubt) :
    s.knownMessage = none := by
  simp [State.knownMessage, h]

theorem State.sentMessage_of_not_won (h : ∀ m, s.selector.inFlight = some m → m.claim ≠ .won) :
    s.sentMessage = none := by
  unfold State.sentMessage
  split
  · rename_i f hf
    exact if_neg (h f hf)
  · rfl

theorem State.knownMessage_of_not_won (h : ∀ m, s.selector.inFlight = some m → m.claim ≠ .won) :
    s.knownMessage = none := by
  rw [State.knownMessage, State.sentMessage_of_not_won h, ite_self]

/-- The message read, with the sender of the claim segment, but for a sender in SEEKING or DOUBT that read its own
damaged: its message is the one it sent. -/
theorem State.cycleMessage_of_decidesOn (h : s.decidesOn sender bytes) :
    s.cycleMessage = cycleMessageOf sender bytes := by
  rcases h with ⟨cls, hclaim, hreceive, hread⟩ | ⟨hintact, hst, m, hflight, hwon, rfl, rfl⟩
  · have hsender : s.claimSender = sender := by simp [State.claimSender, hclaim]
    rcases hread with hintact | hst | hlost
    · simp [State.cycleMessage, hreceive, hintact, hsender]
    · rw [State.cycleMessage, hreceive, hsender, State.knownMessage_of_decides hst]
      cases s.line.intact with
      | none => rfl
      | some passes => cases passes <;> rfl
    · rw [State.cycleMessage, hreceive, hsender, State.knownMessage_of_not_won hlost]
      cases s.line.intact with
      | none => rfl
      | some passes => cases passes <;> rfl
  · have hknown : s.knownMessage = some m.message := by
      simp [State.knownMessage, State.sentMessage, hst, hflight, hwon]
    rw [State.cycleMessage, hknown]
    cases s.line.receive with
    | none => rfl
    | some read =>
      match hi : s.line.intact with
      | some true => exact absurd hi hintact
      | some false | none => rfl

end

/-! ## The required set (R44, R45) -/

theorem Roster.mem_baseSet (r : Roster) (x : Addr) :
    mem r.baseSet x = true ↔ r.role x = .member ∨ r.role x = .joining := by
  simp [Roster.baseSet]

theorem mem_erase_iff (set : StationSet) (a x : Addr) :
    mem (erase set a) x = true ↔ x ≠ a ∧ mem set x = true := by
  rw [mem_erase, Bool.and_eq_true, Bool.not_eq_true', decide_eq_false_iff_not, and_comm, ne_comm]

/-- Table 2-5: the set the model computes is the set the roles give. -/
theorem Roster.mem_required_iff (r : Roster) (m : CycleMessage) (x : Addr) :
    mem (r.required m) x = true ↔ r.requires m.sender m.body x := by
  obtain ⟨kind, sender, body⟩ := m
  cases body with
  | none => exact r.mem_baseSet x
  | some body =>
    cases body with
    | found => exact (Bool.eq_iff_iff.mp (mem_single sender x)).trans (by rw [decide_eq_true_iff, eq_comm]; rfl)
    | leave reason => exact (mem_erase_iff _ _ _).trans (and_congr_right fun _ => r.mem_baseSet x)
    | evict target reason => exact (mem_erase_iff _ _ _).trans (and_congr_right fun _ => r.mem_baseSet x)
    | joinReq | snap | release | cancel | claim | renew | note => exact r.mem_baseSet x

/-- R45: the model's test of a roster to decide with. -/
theorem State.holdsRoster_iff (s : State) : s.holdsRoster = true ↔ s.decidesByRoster := by
  unfold State.holdsRoster State.decidesByRoster
  cases hst : s.station <;> simp [Roster.donor_isSome_iff]

/-! ## The decision from one copy (R46) -/

section
variable {s : State} {sender : Addr} {bytes : MessageBytes}

theorem State.ownFound_iff (h : s.decidesOn sender bytes) :
    s.ownFound = true ↔ s.station = .seeking ∧ kindOf bytes = some .found := by
  simp [State.ownFound, State.cycleMessage_of_decidesOn h, cycleMessageOf]

theorem State.commits_by_roster (h : s.decidesOn sender bytes) (hroster : s.decidesByRoster) (copy : VerdictCopy) :
    s.commits copy = true ↔ copy.object = 0 ∧
      ∀ x, s.roster.requires sender (fieldsOf bytes) x → mem copy.accept x = true := by
  have hst : s.station ≠ .seeking := by
    rcases hroster with hst | ⟨hst, -⟩ | ⟨hst, -⟩ | ⟨hst, -⟩ <;> simp [hst]
  have hfound : s.ownFound = false := by simp [State.ownFound, hst]
  have hholds := s.holdsRoster_iff.mpr hroster
  simp [State.commits, State.needed, State.acceptance, hfound, hholds, subset_iff,
    State.cycleMessage_of_decidesOn h, Roster.mem_required_iff, cycleMessageOf, fieldsOf]

theorem State.commits_by_slots (hroster : ¬ s.decidesByRoster) (hfound : s.ownFound = false) (copy : VerdictCopy) :
    s.commits copy = true ↔ copy.object = 0 ∧ s.monitor.slotDerived ≠ 0 ∧
      ∀ x, mem s.monitor.slotDerived x = true → mem copy.accept x = true := by
  have hholds : s.holdsRoster = false := Bool.eq_false_iff.mpr (mt s.holdsRoster_iff.mp hroster)
  by_cases hslots : s.monitor.slotDerived = 0
  · simp [State.commits, State.needed, hfound, hholds, State.slotRequired, hslots]
  · have hset : s.slotRequired = some s.monitor.slotDerived := if_neg hslots
    have hne : s.monitor.slotDerived ≠ 0#16 := hslots
    simp [State.commits, State.needed, State.acceptance, hfound, hholds, hset, subset_iff, hne]

theorem State.cleanSender_isSome_iff (s : State) :
    s.cleanSender.isSome = true ↔
      ∃ m, s.selector.inFlight = some m ∧ m.claim = .won ∧ m.mismatchFrom = none := by
  unfold State.cleanSender
  cases s.selector.inFlight with
  | none => simp
  | some m => by_cases h : m.claim = .won ∧ m.mismatchFrom = none <;> simp [h]

/-- R43: the sender of a FOUND is the whole required set, so that its own presence decides. -/
theorem State.commits_of_ownFound {own : Addr} (hown : s.own = some own) (hfound : s.ownFound = true)
    (copy : VerdictCopy) :
    s.commits copy = true ↔ copy.object = 0 ∧ s.monitor.slotDerived = 0 ∧
      ∃ m, s.selector.inFlight = some m ∧ m.claim = .won ∧ m.mismatchFrom = none := by
  have hset : s.ownSet = single own := by simp [State.ownSet, singleOpt, hown]
  have haccepts : subset s.ownSet (s.acceptance copy) = true ↔ s.acceptsItself = true := by
    rw [subset_iff, State.acceptance, if_pos hfound, hset]
    cases s.acceptsItself <;> simp
  have hself : s.acceptsItself = true ↔ s.monitor.slotDerived = 0 ∧
      ∃ m, s.selector.inFlight = some m ∧ m.claim = .won ∧ m.mismatchFrom = none := by
    rw [State.acceptsItself, Bool.and_eq_true, s.cleanSender_isSome_iff, beq_iff_eq, and_comm]
  rw [State.commits, State.needed, if_pos hfound, Bool.and_eq_true, beq_iff_eq, haccepts, hself]

end

/-! ## A station that takes no part (R46) -/

theorem State.decides_eq_false_of_idle {s : State}
    (h : s.station = .offline ∨ s.station = .standby ∨ s.station = .faulted
      ∨ (s.station = .seeking ∧ ∀ m, s.selector.inFlight = some m → m.claim ≠ .won)) : s.decides = false := by
  rcases h with hst | hst | hst | ⟨hst, hlost⟩
  · simp [State.decides, hst]
  · simp [State.decides, hst]
  · simp [State.decides, hst]
  · have hwon : s.won = false := by
      unfold State.won
      split
      · rename_i m hm
        simpa using hlost m hm
      · rfl
    simp [State.decides, hst, hwon]

/-! ## Doubt at the verdict point (R47, R112, R113) -/

section
variable {s t : State} {a b : VerdictCopy}

/-- R113: what the station is after a verdict point that brought it to DOUBT, whatever its stall count. -/
structure State.Doubts (s t : State) (reason : StateReason) : Prop where
  station   : t.station = .doubt
  zones     : t.zones = s.zones
  roster    : t.roster = s.roster
  sendQueue : t.sendQueue = SendQueue.cleared
  loaded    : t.snapshot.loaded = s.snapshot.loaded
  events    : t.events =
    (s.abandonRecords.foldl EventQueue.place s.events).place (.state s.station .doubt reason s.heldZones)

theorem State.enterDoubt_doubts (s : State) (reason : StateReason) (stall : Nat) :
    s.Doubts ((s.enterDoubt reason).setSnapshot { (s.enterDoubt reason).snapshot with stall := stall }).dropFlight
      reason :=
  ⟨rfl, rfl, rfl, rfl, rfl, rfl⟩

theorem State.acquiring_of_doubt (hst : s.station = .doubt) : s.acquiring = false := by
  simp [State.acquiring, hst]

/-- A point whose decision is the entry to DOUBT: the stall count is that of R91. -/
theorem State.doubt_at_verdict (reason : StateReason) :
    s.Doubts ((s.enterDoubt reason).updateStall t a b).dropFlight reason
    ∧ ((s.enterDoubt reason).updateStall t a b).dropFlight.line = s.line
    ∧ ((s.enterDoubt reason).updateStall t a b).dropFlight.snapshot.stall =
        if t.acquiring = true then
          if t.snapCommitted a b = true then 0 else min (s.snapshot.stall + 1) 128
        else s.snapshot.stall := by
  rw [State.updateStall_of_doubt rfl]
  exact ⟨s.enterDoubt_doubts reason _, rfl, rfl⟩

theorem State.damagedCommit_of_canDoubt (h : s.canDoubt = true) : s.damagedCommit = s.enterDoubt .damagedCommit := by
  rcases s.canDoubt_iff.mp h with hst | hst | hst <;> simp [State.damagedCommit, hst, h]

theorem State.onCommitted_of_damaged (h : s.line.intact = some false) :
    s.onCommitted = s.countCommit.damagedCommit := by
  simp [State.onCommitted, State.readIntact, h]

end

end Sys2Proof.Machine

open Sys2Proof Sys2Proof.Machine

/-- Settles O45: the decision from a copy is that of the required set, by the roster, the slots or the own FOUND; where
the copies differ or the commit was read damaged the decision is the entry to DOUBT, and where the station does not
decide it is none. -/
theorem copiesDisagree : Obligations.CopiesDisagree := by
  refine ⟨fun copy s sender bytes h => ⟨fun hroster => State.commits_by_roster h hroster copy, ?slots, ?found⟩,
    ?idle, ?differ, ?damaged⟩
  case slots =>
    intro hroster hkind
    have hfound : s.ownFound = false :=
      Bool.eq_false_iff.mpr fun hf => by
        obtain ⟨hst, hk⟩ := (State.ownFound_iff h).mp hf
        exact hkind hst hk
    exact State.commits_by_slots hroster hfound copy
  case found =>
    exact fun own hown hst hkind => State.commits_of_ownFound hown ((State.ownFound_iff h).mpr ⟨hst, hkind⟩) copy
  case idle =>
    intro a b s hrun hcan hsurv hst
    obtain ⟨t, hat, hexec⟩ := exec_verdictPoint_of_survives hrun hcan hsurv
    have hnone := State.decision_of_not_decides (hat.decides_eq.trans (State.decides_eq_false_of_idle hst)) a b
    have hacq : s.acquiring = false :=
      State.acquiring_of_station (by rcases hst with hst | hst | hst | ⟨hst, -⟩ <;> simp [hst])
    rw [State.judge_of_no_decision hnone, State.updateStall_of_not_acquiring (hat.acquiring_eq.trans hacq)] at hexec
    obtain ⟨x, v, l, -, -, -, hline, -⟩ := hat
    exact ⟨_, hexec, rfl, rfl, rfl, rfl, rfl, rfl, hline.commitsSeen⟩
  case differ =>
    intro a b s cls addr hrun hcan hsurv hclaim hactive hdiffer
    have hab : a ≠ b := fun e => hdiffer (congrArg s.commits e)
    have hcount : s.line.disagreementsWith a b = min (s.line.counters.copyDisagreements + 1) 65535 :=
      if_pos ⟨hactive, hab⟩
    obtain ⟨t, hat, hexec⟩ := exec_verdictPoint_of_survives hrun hcan hsurv
    refine ⟨fun hdoubt => ?enters, fun hst => ?passes⟩
    case enters =>
      have hdecision := hat.decision_eq.trans
        (State.decision_of_differ (State.decides_of_canDoubt hclaim hdoubt) hdiffer)
      have hnot : t.snapCommitted a b = false := by simp [State.snapCommitted, hdecision]
      have hacq := hat.acquiring_eq
      rw [State.judge_of_differ hdecision] at hexec
      obtain ⟨x, v, l, -, -, -, hline, hdisagree⟩ := hat
      rw [if_pos (show (((s.setSelector x).setVerdict v).setLine l).canDoubt = true from hdoubt)] at hexec
      obtain ⟨hd, hl, hstall⟩ := State.doubt_at_verdict (s := ((s.setSelector x).setVerdict v).setLine l)
        (t := ((s.setSelector x).setVerdict v).setLine l) (a := a) (b := b) .copyDisagree
      rw [hnot, hacq] at hstall
      exact ⟨_, hexec, hd.station, hd.zones, hd.roster, hd.sendQueue, by rw [hl]; exact hdisagree.trans hcount,
        hd.events, hd.loaded, hstall⟩
    case passes =>
      have hdecides := State.decides_of_cluster hclaim (.inr (.inr (.inr hst)))
      have hdecision := hat.decision_eq.trans (State.decision_of_differ hdecides hdiffer)
      have hnot : t.canDoubt = false := by simp [State.canDoubt, hat.station_eq, hst]
      rw [State.judge_of_differ hdecision, if_neg (by simp [hnot]),
        State.updateStall_of_not_acquiring (hat.acquiring_eq.trans (State.acquiring_of_doubt hst))] at hexec
      obtain ⟨x, v, l, -, -, -, hline, hdisagree⟩ := hat
      exact ⟨_, hexec, rfl, rfl, rfl, rfl, hdisagree.trans hcount⟩
  case damaged =>
    intro a b s cls addr hrun hcan hsurv hclaim hintact ha hb hdoubt
    obtain ⟨t, hat, hexec⟩ := exec_verdictPoint_of_survives hrun hcan hsurv
    have hdecision := hat.decision_eq.trans
      (State.decision_of_committed (State.decides_of_canDoubt hclaim hdoubt) ha hb)
    have hsnap : t.snapCommitted a b = true ↔ s.cycleMessage.kind = some .snap := by
      simp [State.snapCommitted, hdecision, hat.cycleMessage_eq]
    have hacq := hat.acquiring_eq
    rw [State.judge_of_committed hdecision, State.onCommitted_of_damaged (hat.intact_eq.trans hintact)] at hexec
    obtain ⟨x, v, l, -, -, -, hline, -⟩ := hat
    rw [State.damagedCommit_of_canDoubt
      (show (((s.setSelector x).setVerdict v).setLine l).countCommit.canDoubt = true from hdoubt)] at hexec
    obtain ⟨hd, hl, hstall⟩ := State.doubt_at_verdict
      (s := (((s.setSelector x).setVerdict v).setLine l).countCommit)
      (t := ((s.setSelector x).setVerdict v).setLine l) (a := a) (b := b) .damagedCommit
    simp only [hsnap, hacq] at hstall
    exact ⟨_, hexec, hd.station, hd.zones, hd.roster, hd.loaded, hstall,
      by rw [hl]; exact congrArg lineCount hline.commitsSeen, hd.events⟩
end

section
/-! SUPPORT. A station's own duties and its own eviction at their verdict point (R59, R105, R108 to R111, R114, R129,
R130), and the statement about them settled. -/

namespace Sys2Proof.Machine

/-! ## A message decided committed and read intact -/

section
variable {s t : State} {a b : VerdictCopy} {addr own : Addr} {k : Kind} {body : Body}

/-- The verdict point of a committed message at a station that decides: the commit counted, the effect of the message in
the local state, the stall count, and the message in flight dropped. -/
theorem exec_readsCommit (h : s.readsCommit a b addr k body) (hdec : s.decides = true) :
    ∃ t, s.AtDecision a b t ∧ exec (.verdictPoint a b) s =
      .next (((t.countCommit.intactCommit addr body).updateStall t a b).dropFlight) := by
  have hmessage := State.readsCommit_cycleMessage h
  obtain ⟨hrun, hcan, hsurv, -, -, hintact, ha, hb⟩ := h
  obtain ⟨t, hat, hexec⟩ := exec_verdictPoint_of_survives hrun hcan hsurv
  rw [State.judge_of_committed (hat.decision_eq.trans (State.decision_of_committed hdec ha hb)),
    State.onCommitted_of_intact (hat.intact_eq.trans hintact) (hat.cycleMessage_eq.trans hmessage)] at hexec
  exact ⟨t, hat, hexec⟩

theorem State.readsCommit_decides (h : s.readsCommit a b addr k body)
    (hst : s.station = .synced ∨ s.station = .leaving ∨ s.station = .joining ∨ s.station = .doubt) :
    s.decides = true := by
  obtain ⟨-, -, -, ⟨cls, hclaim⟩, -⟩ := h
  exact State.decides_of_cluster hclaim hst

theorem State.intactCommit_of_cluster (hst : s.station = .synced ∨ s.station = .leaving ∨ s.station = .joining) :
    s.intactCommit addr body = s.clusterCommit addr body := by
  rcases hst with hst | hst | hst <;> simp [State.intactCommit, hst]

theorem State.intactCommit_of_doubt (hst : s.station = .doubt) :
    s.intactCommit addr body = s.doubtCommit addr body := by
  simp [State.intactCommit, hst]

theorem State.intactCommit_of_seeking (hst : s.station = .seeking) :
    s.intactCommit addr body = s.seekingCommit body := by
  simp [State.intactCommit, hst]

/-! ## The own FOUND (R59, R106) -/

/-- R47: the sender's own FOUND counts as committed also where it read its message damaged. -/
theorem State.onCommitted_of_ownFound (hst : s.station = .seeking) (hown : s.own = some own)
    (hbody : s.cycleMessage.body = some .found) : s.onCommitted = s.countCommit.foundCommitted own := by
  have hst' : s.countCommit.station = .seeking := hst
  have hown' : s.countCommit.own = some own := hown
  have hbody' : s.countCommit.cycleMessage.body = some .found := hbody
  cases hread : s.readIntact <;>
    simp [State.onCommitted, hread, hbody, State.intactCommit, State.seekingCommit, State.damagedCommit, hst', hown',
      hbody']

theorem ZoneTable.cleared_get (z : ZoneId) : ZoneTable.cleared.get z = ZoneEntry.cleared := by
  simp [ZoneTable.cleared, Vector.get]

theorem State.heldZones_of_cleared (h : s.zones = ZoneTable.cleared) : s.heldZones = 0 := by
  have hnone (z : ZoneId) (own : Addr) : mem (s.zones.get z).holders own = false := by
    rw [h, ZoneTable.cleared_get]
    exact mem_empty own
  unfold State.heldZones
  cases s.own <;> simp [hnone]

theorem State.foundCommitted_ownRole (hown : s.own = some own) : (s.foundCommitted own).ownRole = .member := by
  have hown' : (s.foundCommitted own).own = some own := hown
  exact (State.ownRole_of_own hown').trans (Roster.role_setRole_self Roster.cleared.advance own .member)

theorem State.foundCommitted_others (s : State) {x : Addr} (h : x ≠ own) :
    (s.foundCommitted own).roster.role x = .absent :=
  (Roster.role_setRole_of_ne Roster.cleared.advance .member h).trans (Roster.role_cleared x)

theorem State.foundCommitted_events :
    (s.foundCommitted own).events = s.events.place (.state s.station .synced .formed 0) := by
  have hheld : ((s.setRoster (Roster.cleared.found own)).setZones ZoneTable.cleared).heldZones = 0 :=
    State.heldZones_of_cleared rfl
  rw [← hheld]
  rfl

/-! ## Departures (R109 to R111) -/

/-- R109, R110: what a station is after a departure from the cluster to STANDBY, and with the rejoin flag on into
SEEKING. -/
structure State.Departs (s : State) (reason : StateReason) (t : State) : Prop where
  controller : t.controller =
    { s.controller with station := if s.controller.config.rejoin then .seeking else .standby, formation := 0 }
  zones      : t.zones = ZoneTable.cleared
  roster     : t.roster = Roster.cleared
  sendQueue  : t.sendQueue = SendQueue.cleared
  snapshot   : t.snapshot = Snapshot.cleared
  selector   : t.selector = Selector.cleared
  policy     : t.policy = s.policy
  events     : t.events = s.departureEvents (s.sendQueue.entries.map SendEntry.withdrawn) reason

theorem State.arriveStandby_departs (hst : s.station.isCluster = true) (reason : StateReason) :
    s.Departs reason (s.arriveStandby reason).dropFlight := by
  have hconfig : (s.depart .standby reason).controller.config = s.controller.config := rfl
  cases hr : s.controller.config.rejoin with
  | false =>
    rw [State.arriveStandby_of_stay hr]
    refine ⟨?_, rfl, rfl, rfl, rfl, rfl, rfl, ?_⟩
    · rw [hr]
      rfl
    · rw [State.departureEvents, hr]
      rfl
  | true =>
    have harrive : s.arriveStandby reason =
        ((s.depart .standby reason).changeStation .seeking .rejoin 0).beginSeeking := by
      simp [State.arriveStandby, State.rejoin, hconfig, hr, hst]
    rw [harrive]
    refine ⟨?_, rfl, rfl, rfl, rfl, rfl, rfl, ?_⟩
    · rw [hr]
      rfl
    · rw [State.departureEvents, hr]
      rfl

/-- A departure leaves no stall count to keep. -/
theorem State.arriveStandby_updateStall (hst : s.station.isCluster = true) (reason : StateReason) (t : State) :
    (s.arriveStandby reason).updateStall t a b = s.arriveStandby reason := by
  have hcontroller : (s.arriveStandby reason).controller = _ := (State.arriveStandby_departs hst reason).controller
  have hstation : (s.arriveStandby reason).station = if s.controller.config.rejoin then .seeking else .standby :=
    congrArg Controller.station hcontroller
  refine State.updateStall_of_outside ?_ t
  rw [hstation]
  split <;> simp

theorem EvictReason.ofCode_code (reason : EvictReason) :
    EvictReason.ofCode (natByte reason.code).toNat = some reason := by
  cases reason <;> rfl

theorem State.evicted_of_code (s : State) (reason : EvictReason) :
    s.evicted (natByte reason.code) =
      (s.setController { s.controller with lastEviction := some reason }).arriveStandby .evicted := by
  rw [State.evicted, EvictReason.ofCode_code]

/-! ## An attempt objected to (R48, R127) -/

/-- The verdict point of a message that this station won with and that met an objection. -/
theorem exec_objected {m : InFlight} (hrun : s.running) (hcan : s.canMake .verdict = true)
    (hsurv : s.survives a b = true) (hdec : s.decides = true) (hflight : s.selector.inFlight = some m)
    (hwon : m.claim = .won) (ha : s.commits a = false) (hb : s.commits b = false)
    (hobj : a.object ||| b.object ≠ 0) :
    ∃ t, s.AtDecision a b t ∧ exec (.verdictPoint a b) s =
      .next (((t.onObjected m.source (a.object ||| b.object)).updateStall t a b).dropFlight) := by
  obtain ⟨t, hat, hexec⟩ := exec_verdictPoint_of_survives hrun hcan hsurv
  rw [State.judge_of_objected (hat.decision_eq.trans (State.decision_of_not_committed hdec ha hb))
    (hat.wonSource_eq.trans (State.wonSource_of_won hflight hwon)) hobj] at hexec
  exact ⟨t, hat, hexec⟩

/-- At a station that acquires no replica the own duty's objected attempt changes the station as it stands with its
hold-off run. -/
theorem exec_objected_of_settled {m : InFlight} {cls : BitVec 2} (hrun : s.running)
    (hcan : s.canMake .verdict = true) (hsurv : s.survives a b = true)
    (hclaim : s.verdict.claim = some (.winner cls addr)) (hst : s.station = .seeking ∨ s.station = .synced)
    (hflight : s.selector.inFlight = some m) (hwon : m.claim = .won) (ha : s.commits a = false)
    (hb : s.commits b = false) (hobj : a.object ||| b.object ≠ 0) :
    ∃ x v l, x = s.runHoldOffs.selector ∧ exec (.verdictPoint a b) s =
      .next ((((s.setSelector x).setVerdict v).setLine l).onObjected m.source
        (a.object ||| b.object)).dropFlight := by
  have hdec : s.decides = true := by
    rcases hst with hst | hst
    · exact State.decides_of_seeking_winner hclaim hst hflight hwon
    · exact State.decides_of_cluster hclaim (.inl hst)
  obtain ⟨t, hat, hexec⟩ := exec_objected hrun hcan hsurv hdec hflight hwon ha hb hobj
  have hacq : t.acquiring = false :=
    hat.acquiring_eq.trans (State.acquiring_of_station (by rcases hst with hst | hst <;> simp [hst]))
  rw [State.updateStall_of_not_acquiring hacq] at hexec
  obtain ⟨x, v, l, -, hheld⟩ := hat
  exact ⟨x, v, l, hheld cls addr hclaim, hexec⟩

theorem Monitor.refuse_target (m : Monitor) (target : Addr) : ((m.refuse target).peers.get target).refused = true := by
  simp [Monitor.refuse]

theorem Monitor.refuse_of_ne (m : Monitor) {target x : Addr} (h : x ≠ target) :
    (m.refuse target).peers.get x = m.peers.get x :=
  put_get_of_ne _ _ (Ne.symm h)

section
variable (s : State)

@[simp] theorem State.dropFlight_controller : s.dropFlight.controller = s.controller := rfl
@[simp] theorem State.dropFlight_zones : s.dropFlight.zones = s.zones := rfl
@[simp] theorem State.dropFlight_roster : s.dropFlight.roster = s.roster := rfl
@[simp] theorem State.dropFlight_events : s.dropFlight.events = s.events := rfl
@[simp] theorem State.dropFlight_monitor : s.dropFlight.monitor = s.monitor := rfl
@[simp] theorem State.dropFlight_selector : s.dropFlight.selector = { s.selector with inFlight := none } := rfl

end

/-- R129: an objected duty changes its hold-off, and a SNAP duty is dropped with it. -/
theorem State.onObjected_seeking {source : Source} (h : source = .sync .found ∨ source = .sync .joinReq)
    (set : StationSet) :
    s.onObjected source set = s.setSelector { s.selector with seekHold := Config.holdOffCycles } := by
  rcases h with rfl | rfl <;> rfl

theorem State.onObjected_snap (index : Nat) (set : StationSet) :
    s.onObjected (.sync (.snap index)) set =
      s.setSelector { s.selector with snapHold := Config.holdOffCycles, sync := none } := rfl

theorem State.onObjected_evict (target : Addr) (reason : EvictReason) (set : StationSet) :
    s.onObjected (.urgent (.evict target reason)) set =
      (s.setSelector { s.selector with urgent := none }).setMonitor (s.monitor.refuse target) := rfl

theorem State.runHoldOffs_seekHold (hst : s.station = .seeking) :
    s.runHoldOffs.selector = { s.selector with seekHold := s.selector.seekHold - 1 } := by
  rw [State.runHoldOffs_of_seeking hst]
  rfl

theorem State.runHoldOffs_snapHold (hst : s.station = .synced) :
    s.runHoldOffs.selector = { s.selector with snapHold := s.selector.snapHold - 1 } := by
  rw [State.runHoldOffs_of_synced hst]
  rfl

end

/-- R43, R59: the own FOUND won, read clean, with no cluster slot seen and no objection. -/
theorem exec_ownFound {s : State} {a b : VerdictCopy} {m : InFlight} {own addr : Addr} {cls : BitVec 2}
    (hrun : s.running) (hcan : s.canMake .verdict = true) (hst : s.station = .seeking) (hown : s.own = some own)
    (hstance : s.verdict.stance = .notTaken) (hclaim : s.verdict.claim = some (.winner cls addr))
    (hclean : s.cleanSender = some m) (hkind : s.cycleMessage.kind = some .found)
    (hbody : s.cycleMessage.body = some .found) (hslots : s.monitor.slotDerived = 0) (hobja : a.object = 0)
    (hobjb : b.object = 0) :
    ∃ x v l, exec (.verdictPoint a b) s =
      .next ((((s.setSelector x).setVerdict v).setLine l).foundCommitted own).dropFlight := by
  obtain ⟨hflight, hwon, hmismatch⟩ := State.cleanSender_some hclean
  have hfound : s.ownFound = true := by simp [State.ownFound, hst, hkind]
  have hcommits (copy : VerdictCopy) (h : copy.object = 0) : s.commits copy = true :=
    (State.commits_of_ownFound hown hfound copy).mpr ⟨h, hslots, m, hflight, hwon, hmismatch⟩
  have hdecision := State.decision_of_committed (State.decides_of_seeking_winner hclaim hst hflight hwon)
    (hcommits a hobja) (hcommits b hobjb)
  obtain ⟨t, hat, hexec⟩ := exec_verdictPoint_of_survives hrun hcan (State.survives_of_no_stance hstance a b)
  have hacq : t.acquiring = false := hat.acquiring_eq.trans (State.acquiring_of_station (by simp [hst]))
  have hownt : t.own = some own := (congrArg (fun c => c.config.address) hat.controller_eq).trans hown
  rw [State.judge_of_committed (hat.decision_eq.trans hdecision),
    State.onCommitted_of_ownFound (hat.station_eq.trans hst) hownt
      ((congrArg CycleMessage.body hat.cycleMessage_eq).trans hbody),
    State.updateStall_of_not_acquiring hacq] at hexec
  obtain ⟨x, v, l⟩ := hat
  exact ⟨x, v, _, hexec⟩

/-- R105: the own JOIN_REQ committed. -/
theorem exec_ownJoinReq {s : State} {a b : VerdictCopy} {m : InFlight} {own : Addr}
    (h : s.readsCommit a b own .joinReq .joinReq) (hst : s.station = .seeking)
    (hflight : s.selector.inFlight = some m) (hwon : m.claim = .won) :
    ∃ x v l, exec (.verdictPoint a b) s =
      .next ((((s.setSelector x).setVerdict v).setLine l).enterJoining).dropFlight := by
  obtain ⟨-, -, -, ⟨cls, hclaim⟩, -⟩ := id h
  obtain ⟨t, hat, hexec⟩ := exec_readsCommit h (State.decides_of_seeking_winner hclaim hst hflight hwon)
  have hacq : t.acquiring = false := hat.acquiring_eq.trans (State.acquiring_of_station (by simp [hst]))
  have heffect : t.countCommit.intactCommit own .joinReq = t.countCommit.enterJoining :=
    State.intactCommit_of_seeking (s := t.countCommit) (hat.station_eq.trans hst)
  rw [heffect, State.updateStall_of_not_acquiring hacq] at hexec
  obtain ⟨x, v, l⟩ := hat
  exact ⟨x, v, _, hexec⟩

/-- R108, R114: the own LEAVE of a LEAVING or DOUBT station, committed or objected to, is a departure. -/
theorem exec_ownLeave {s : State} {a b : VerdictCopy} {m : InFlight} {own : Addr} {reason : LeaveReason} {code : Byte}
    (hst : s.station = .leaving ∨ s.station = .doubt) (hown : s.own = some own)
    (hflight : s.selector.inFlight = some m) (hwon : m.claim = .won) (hsource : m.source = .urgent (.leave reason))
    (h : s.readsCommit a b own .leave (.leave code)
      ∨ (s.running ∧ s.canMake .verdict = true ∧ s.survives a b = true
        ∧ s.verdict.claim = some (.winner 0 own) ∧ s.commits a = false ∧ s.commits b = false
        ∧ a.object ||| b.object ≠ 0)) :
    ∃ x v l, exec (.verdictPoint a b) s =
      .next ((((s.setSelector x).setVerdict v).setLine l).arriveStandby .left).dropFlight := by
  have hcluster : s.station.isCluster = true := by rcases hst with hst | hst <;> simp [hst, StationState.isCluster]
  have hany : s.station = .synced ∨ s.station = .leaving ∨ s.station = .joining ∨ s.station = .doubt := by
    rcases hst with hst | hst <;> simp [hst]
  rcases h with h | ⟨hrun, hcan, hsurv, hclaim, ha, hb, hobj⟩
  · obtain ⟨t, hat, hexec⟩ := exec_readsCommit h (State.readsCommit_decides h hany)
    have hstt : t.countCommit.station = s.station := hat.station_eq
    have hisOwn : t.countCommit.isOwn own = true := by
      cases hat
      exact beq_iff_eq.mpr hown
    have heffect : t.countCommit.intactCommit own (.leave code) = t.countCommit.arriveStandby .left := by
      rcases hst with hst | hst
      · rw [State.intactCommit_of_cluster (.inr (.inl (hstt.trans hst)))]
        exact if_pos hisOwn
      · rw [State.intactCommit_of_doubt (hstt.trans hst)]
        exact if_pos hisOwn
    rw [heffect, State.arriveStandby_updateStall (hstt ▸ hcluster)] at hexec
    obtain ⟨x, v, l⟩ := hat
    exact ⟨x, v, _, hexec⟩
  · obtain ⟨t, hat, hexec⟩ :=
      exec_objected hrun hcan hsurv (State.decides_of_cluster hclaim hany) hflight hwon ha hb hobj
    have heffect : t.onObjected m.source (a.object ||| b.object) = t.arriveStandby .left := by
      rw [hsource]
      rfl
    rw [heffect, State.arriveStandby_updateStall (hat.station_eq ▸ hcluster)] at hexec
    obtain ⟨x, v, l⟩ := hat
    exact ⟨x, v, l, hexec⟩

/-- R111: a committed EVICT naming this station, in SYNCED and in DOUBT. -/
theorem exec_ownEvict {s : State} {a b : VerdictCopy} {own addr : Addr} {code : Byte}
    (h : s.readsCommit a b addr .evict (.evict own code)) (hst : s.station = .synced ∨ s.station = .doubt)
    (hown : s.own = some own) :
    ∃ x v l, exec (.verdictPoint a b) s =
      .next ((((s.setSelector x).setVerdict v).setLine l).evicted code).dropFlight := by
  have hcluster : s.station.isCluster = true := by rcases hst with hst | hst <;> simp [hst, StationState.isCluster]
  obtain ⟨t, hat, hexec⟩ :=
    exec_readsCommit h (State.readsCommit_decides h (by rcases hst with hst | hst <;> simp [hst]))
  have hstt : t.countCommit.station = s.station := hat.station_eq
  have hisOwn : t.countCommit.isOwn own = true := by
    cases hat
    exact beq_iff_eq.mpr hown
  have heffect : t.countCommit.intactCommit addr (.evict own code) = t.countCommit.evicted code := by
    rcases hst with hst | hst
    · rw [State.intactCommit_of_cluster (.inl (hstt.trans hst))]
      exact if_pos hisOwn
    · rw [State.intactCommit_of_doubt (hstt.trans hst)]
      exact if_pos hisOwn
  have hstill : (t.countCommit.evicted code).updateStall t a b = t.countCommit.evicted code :=
    State.arriveStandby_updateStall (hstt ▸ hcluster) .evicted t
  rw [heffect, hstill] at hexec
  obtain ⟨x, v, l⟩ := hat
  exact ⟨x, v, _, hexec⟩

end Sys2Proof.Machine

open Sys2Proof Sys2Proof.Machine

/-- Settles O43: each duty's decision is its own change of local state, its hold-off or its refused mark; none of these
stations has a stall count to keep. -/
theorem ownDutiesDecided : Obligations.OwnDutiesDecided := by
  refine ⟨?found, ?joinReq, ?leave, ?evict, ?objected⟩
  case found =>
    intro a b s m own cls addr hrun hcan hst hown hstance hclaim hclean hkind hbody hslots hobja hobjb
    obtain ⟨x, v, l, hexec⟩ :=
      exec_ownFound hrun hcan hst hown hstance hclaim hclean hkind hbody hslots hobja hobjb
    have hevents := State.foundCommitted_events (s := ((s.setSelector x).setVerdict v).setLine l) (own := own)
    rw [show (((s.setSelector x).setVerdict v).setLine l).station = .seeking from hst] at hevents
    exact ⟨_, hexec, rfl, State.foundCommitted_ownRole (s := ((s.setSelector x).setVerdict v).setLine l) hown, rfl,
      fun y hy => State.foundCommitted_others (((s.setSelector x).setVerdict v).setLine l) hy, rfl, rfl, rfl, rfl,
      rfl, rfl, rfl, hevents⟩
  case joinReq =>
    intro a b s m own h hst hown hstance hflight hwon
    obtain ⟨x, v, l, hexec⟩ := exec_ownJoinReq h hst hflight hwon
    rw [← hst]
    exact ⟨_, hexec, rfl, rfl, rfl, rfl, rfl, rfl, rfl, rfl⟩
  case leave =>
    intro a b s m own reason code hst hown hflight hwon hsource h
    obtain ⟨x, v, l, hexec⟩ := exec_ownLeave hst hown hflight hwon hsource h
    have hcluster : s.station.isCluster = true := by rcases hst with hst | hst <;> simp [hst, StationState.isCluster]
    have hd := State.arriveStandby_departs (s := ((s.setSelector x).setVerdict v).setLine l) hcluster .left
    exact ⟨_, hexec, congrArg Controller.station hd.controller, hd.zones, hd.roster, hd.sendQueue, hd.snapshot,
      hd.selector, hd.policy, hd.events⟩
  case evict =>
    intro a b s own addr reason h hst hown
    obtain ⟨x, v, l, hexec⟩ := exec_ownEvict h hst hown
    have hcluster : s.station.isCluster = true := by rcases hst with hst | hst <;> simp [hst, StationState.isCluster]
    have hd := State.arriveStandby_departs
      (s := (((s.setSelector x).setVerdict v).setLine l).setController
        { s.controller with lastEviction := some reason }) hcluster .evicted
    rw [State.evicted_of_code] at hexec
    exact ⟨_, hexec, hd.controller, hd.zones, hd.roster, hd.sendQueue, hd.selector, hd.events⟩
  case objected =>
    intro a b s m cls addr hrun hcan hsurv hclaim hflight hwon ha hb hobj
    refine ⟨fun hst hsource => ?seek, fun index hst hsource => ?snap, fun target reason hst hsource => ?evicting⟩
    case seek =>
      obtain ⟨x, v, l, hx, hexec⟩ :=
        exec_objected_of_settled hrun hcan hsurv hclaim (.inl hst) hflight hwon ha hb hobj
      rw [State.onObjected_seeking hsource] at hexec
      refine ⟨_, hexec, ?_, by simp, by simp, by simp, by simp⟩
      simp [hx, State.runHoldOffs_seekHold hst, Config.holdOffCycles]
    case snap =>
      obtain ⟨x, v, l, hx, hexec⟩ :=
        exec_objected_of_settled hrun hcan hsurv hclaim (.inr hst) hflight hwon ha hb hobj
      rw [hsource, State.onObjected_snap] at hexec
      refine ⟨_, hexec, ?_, by simp, by simp, by simp, by simp⟩
      simp [hx, State.runHoldOffs_snapHold hst, Config.holdOffCycles]
    case evicting =>
      obtain ⟨x, v, l, hx, hexec⟩ :=
        exec_objected_of_settled hrun hcan hsurv hclaim (.inr hst) hflight hwon ha hb hobj
      rw [hsource, State.onObjected_evict] at hexec
      refine ⟨_, hexec, ?_, ?_, fun y hy => ?_, by simp, by simp, by simp, by simp⟩
      · simp [hx, State.runHoldOffs_snapHold hst]
      · simp [Monitor.refuse_target]
      · simp [Monitor.refuse_of_ne _ hy]
end

section
/-! SUPPORT. The application of a committed message at a member (R27, R49 to R51, R57): the zone effects, the records
and the own waits list, whatever the sender's outcome has ended before them. -/

namespace Sys2Proof.Machine

/-! ## A member stays one (R57, R62) -/

theorem Roster.rosterEffect_counter (r : Roster) (sender : Addr) (b : Body) :
    (rosterEffect r sender b).counter = r.counter := by
  cases b with
  | joinReq =>
    show (r.applyJoinReq sender).counter = r.counter
    rcases r.applyJoinReq_cases sender with e | ⟨-, -, e⟩ | ⟨-, -, e⟩ <;> rw [e] <;> rfl
  | snap index content =>
    show (r.applySnap index.toNat).counter = r.counter
    rcases r.applySnap_cases index.toNat with e | ⟨j, -, -, -, e⟩ | ⟨j, -, e⟩ <;> rw [e]
    exact Roster.promote_counter _
  | leave reason => exact r.remove_counter sender
  | evict target reason => exact r.remove_counter target
  | found | claim | renew | release | cancel | note => rfl

section
variable {s : State} {own sender : Addr} {b : Body}

theorem State.certain_of_member (h : s.appliesAsMember) : s.certain = true := by
  rcases h with hst | ⟨hst, hrole, -⟩ <;> simp [State.certain, *]

theorem State.acquiring_of_certain (h : s.certain = true) : s.acquiring = false := by
  cases hacq : s.acquiring with
  | false => rfl
  | true => exact absurd ((State.certain_of_acquiring hacq).symm.trans h) (by decide)

theorem State.reportsLeases_of_certain (h : s.certain = true) : s.reportsLeases = true := by
  revert h
  unfold State.certain State.reportsLeases
  cases s.station <;> simp

theorem State.zoneActive_of_certain (h : s.certain = true) (z : ZoneId) : s.zoneActive z = true := by
  simp [State.zoneActive, h]

/-- A message that does not remove the member leaves it a member. -/
theorem State.certain_of_commit (h : s.appliesAsMember) (hown : s.own = some own)
    (hb : b.removes sender ≠ some own) :
    (s.setRoster (rosterEffect s.roster.advance sender b)).certain = true := by
  rcases h with hst | ⟨hst, hrole, hwf⟩
  · have hst' : (s.setRoster (rosterEffect s.roster.advance sender b)).station = .synced := hst
    simp [State.certain, hst']
  · have hst' : (s.setRoster (rosterEffect s.roster.advance sender b)).station = .leaving := hst
    have hform : s.roster.advance.Form := s.roster.advance.wf_iff_form.mp hwf
    have hmember : s.roster.advance.role own = .member := (State.ownRole_of_own hown).symm.trans hrole
    have hown' : (s.setRoster (rosterEffect s.roster.advance sender b)).own = some own := hown
    have hrole' : (s.setRoster (rosterEffect s.roster.advance sender b)).ownRole = .member := by
      rw [State.ownRole_of_own hown']
      exact hform.member_rosterEffect hmember hb
    simp [State.certain, hst', hrole']

/-! ## The records of a commit (R27) -/

/-- What the application makes of each zone, at a member. -/
theorem State.zoneChanges_of_certain (h : s.certain = true) (z : ZoneId) :
    (s.zoneChanges (zoneEffect s.roster sender b)).get z = zoneEffect s.roster sender b z (s.zones.get z) := by
  simp [State.zoneChanges, State.zoneActive_of_certain h]

end

/-- R26: the changes that a ZONE record reports. -/
theorem zoneDiffers_iff (before after : ZoneEntry) :
    zoneDiffers before after = true ↔ ¬ (before.state = after.state ∧ before.holders = after.holders
      ∧ before.queue = after.queue ∧ before.generation = after.generation) := by
  rw [zoneDiffers, Bool.not_eq_true', ← Bool.not_eq_true]
  exact not_congr (by simp [and_assoc])

/-- The station in which the reports of a commit are made, seen from the one before the commit: a member with the same
policy and address and the counter advanced, whose own waits records of the zones granted to it still stand. -/
structure State.Reporting (s t : State) (own sender : Addr) (b : Body) : Prop where
  certain : t.certain = true
  address : t.own = some own
  policy  : t.policy = s.policy
  counter : t.roster.counter = s.roster.counter + 1
  waits   : ∀ z, mem (zoneEffect s.roster sender b z (s.zones.get z)).granted own = true →
              t.sendQueue.ownWaits = s.sendQueue.ownWaits

namespace State.Reporting

variable {s t : State} {own sender : Addr} {b : Body} (h : s.Reporting t own sender b)
include h

theorem grantRecords (z : ZoneId) :
    t.grantRecords z (zoneEffect s.roster sender b z (s.zones.get z)) =
      s.grantOf own z (zoneEffect s.roster sender b z (s.zones.get z)) := by
  rw [State.grantRecords, h.address]
  simp only [State.reportsLeases_of_certain h.certain, Bool.true_and, State.grantOf]
  by_cases hgranted : mem (zoneEffect s.roster sender b z (s.zones.get z)).granted own = true
  · cases hfind : s.sendQueue.ownWaits.find? (fun w => w.zone == z) with
    | none => simp only [if_pos hgranted, h.waits z hgranted, hfind]
    | some w => simp only [if_pos hgranted, h.waits z hgranted, hfind]
  · simp only [if_neg hgranted]

theorem watchRecords (z : ZoneId) :
    t.watchRecords z (s.zones.get z) (zoneEffect s.roster sender b z (s.zones.get z)) =
      s.zoneRecordOf z (zoneEffect s.roster sender b z (s.zones.get z)) := by
  simp only [State.watchRecords, State.zoneRecordOf, h.certain, h.policy, h.counter, zoneFlag, Bool.true_and,
    Bool.and_eq_true, zoneDiffers_iff]

theorem expireRecords (z : ZoneId) :
    t.expireRecords z (s.zones.get z) (zoneEffect s.roster sender b z (s.zones.get z)) = [] := by
  simp [State.expireRecords, h.address, zoneEffect_expired]

/-- R27: the records of the zones and of the NOTE. -/
theorem records (hcert : s.certain = true) :
    t.zoneRecords s.zones (s.zoneChanges (zoneEffect s.roster sender b)) ++ noteRecordOf own sender b =
      s.commitRecords own sender b := by
  simp [State.zoneRecords, State.commitRecords, State.zoneChanges_of_certain hcert, h.grantRecords, h.watchRecords,
    h.expireRecords]

theorem waitsAfter (hcert : s.certain = true) :
    t.waitsAfter (s.zoneChanges (zoneEffect s.roster sender b)) = s.waitsLeft own sender b t.sendQueue.ownWaits := by
  simp [State.waitsAfter, State.waitsLeft, h.address, State.reportsLeases_of_certain h.certain,
    State.zoneChanges_of_certain hcert]

end State.Reporting

/-- R51: the delivery of a NOTE at a member places its NOTE record. -/
theorem State.deliver_of_certain {s : State} {own : Addr} (hcert : s.certain = true) (hown : s.own = some own)
    (sender : Addr) (b : Body) : s.deliver sender b = s.placeAll (noteRecordOf own sender b) := by
  cases b with
  | note destination length data =>
    have hdest : s.isDestination destination = true ↔ destination = 16 ∨ destination.toNat = own.val := by
      simp [State.isDestination_iff, hown]
    by_cases h : destination = 16 ∨ destination.toNat = own.val
    · simp only [State.deliver, hcert, hdest.mpr h, noteRecordOf, if_pos h]
      rfl
    · simp only [State.deliver, hcert, Bool.eq_false_iff.mpr (mt hdest.mp h), noteRecordOf, if_neg h]
      rfl
  | _ => rfl

theorem State.placeAll_append (s : State) (rs rs' : List EventRecord) :
    (s.placeAll rs).placeAll rs' = s.placeAll (rs ++ rs') := by
  simp [State.placeAll, State.setEvents]

/-- The zone effects and the membership effect in place, before the sender's outcome and the reports. -/
theorem State.applyMessage_eq (s : State) (sender : Addr) (b : Body) :
    s.applyMessage sender b =
      (((s.appliedQuietly sender b).senderCommitted s.zones sender b).reportZones s.zones
        (s.zoneChanges (zoneEffect s.roster sender b))).deliver sender b := rfl

/-- R49, R50: what a commit leaves at a member: the sender's outcome, then the own waits list and the records. -/
theorem State.applyMessage_of_reporting {s t : State} {own sender : Addr} {b : Body} (hcert : s.certain = true)
    (ht : (s.appliedQuietly sender b).senderCommitted s.zones sender b = t) (h : s.Reporting t own sender b) :
    s.applyMessage sender b =
      (t.setSendQueue { t.sendQueue with ownWaits := s.waitsLeft own sender b t.sendQueue.ownWaits }).placeAll
        (s.commitRecords own sender b) := by
  rw [State.applyMessage_eq, ht, State.reportZones, h.waitsAfter hcert]
  have hcert' : ((t.setSendQueue { t.sendQueue with
      ownWaits := s.waitsLeft own sender b t.sendQueue.ownWaits }).placeAll
        (t.zoneRecords s.zones (s.zoneChanges (zoneEffect s.roster sender b)))).certain = true := h.certain
  have hown' : ((t.setSendQueue { t.sendQueue with
      ownWaits := s.waitsLeft own sender b t.sendQueue.ownWaits }).placeAll
        (t.zoneRecords s.zones (s.zoneChanges (zoneEffect s.roster sender b)))).own = some own := h.address
  rw [State.deliver_of_certain hcert' hown', State.placeAll_append, h.records hcert]

end Sys2Proof.Machine
end

section
/-! SUPPORT. The verdict point of a committed message at a member, as a receiver and as its sender, and of another
station's FOUND (R46, R49 to R51, R79, R127, R130, R150, R156), and the statement about them settled. -/

namespace Sys2Proof.Machine

/-! ## What a commit leaves at a member -/

/-- A station after a commit at a member whose sender's outcome left the send queue, the events and the selector given:
the effects, the records and the own waits list (R49, R50), with the message in flight dropped. -/
structure State.Commits (s : State) (own sender : Addr) (b : Body) (q : SendQueue) (ev : EventQueue) (x : Selector)
    (t : State) : Prop where
  station  : t.station = s.station
  roster   : t.roster = rosterEffect { s.roster with counter := s.roster.counter + 1 } sender b
  zones    : ∀ z, t.zones.get z = (zoneEffect s.roster sender b z (s.zones.get z)).entry
  line     : t.line = s.line
  selector : t.selector = { x with inFlight := none }
  tags     : t.sendQueue.entries.map SendEntry.tag = q.entries.map SendEntry.tag
  find     : ∀ tag, t.sendQueue.find tag = (q.find tag).map fun e => { e with state := .waiting }
  ownWaits : t.sendQueue.ownWaits = s.waitsLeft own sender b q.ownWaits
  events   : t.events = (s.commitRecords own sender b).foldl EventQueue.place ev

section
variable {s : State} {own sender : Addr} {b : Body}

theorem State.appliedQuietly_zone_of_certain (h : s.certain = true) (z : ZoneId) :
    (s.appliedQuietly sender b).zones.get z = (zoneEffect s.roster sender b z (s.zones.get z)).entry := by
  simp only [State.appliedQuietly, State.setZones_zones, changedEntries, tabulate_get, State.zoneChanges_of_certain h]

theorem State.appliedQuietly_counter (s : State) (sender : Addr) (b : Body) :
    (s.appliedQuietly sender b).roster.counter = s.roster.counter + 1 := by
  rw [State.appliedQuietly_roster, Roster.rosterEffect_counter]
  rfl

theorem State.certain_congr {s t : State} (hcontroller : t.controller = s.controller) (hroster : t.roster = s.roster) :
    t.certain = s.certain := by
  unfold State.certain State.ownRole State.own State.station
  rw [hcontroller, hroster]

theorem State.appliedQuietly_certain (h : s.appliesAsMember) (hown : s.own = some own)
    (hb : b.removes sender ≠ some own) : (s.appliedQuietly sender b).certain = true := by
  rw [← State.certain_of_commit h hown hb]
  exact State.certain_congr (s.appliedQuietly_controller sender b) (s.appliedQuietly_roster sender b)

/-- The application at a member, the sender's outcome being given. -/
theorem State.applyMessage_commits (h : s.appliesAsMember) (hown : s.own = some own)
    (hb : b.removes sender ≠ some own) {q : SendQueue} {ev : EventQueue} {x : Selector}
    (houtcome : (s.appliedQuietly sender b).senderCommitted s.zones sender b =
      (((s.appliedQuietly sender b).setSendQueue q).setEvents ev).setSelector x)
    (hwaits : ∀ z, mem (zoneEffect s.roster sender b z (s.zones.get z)).granted own = true →
      q.ownWaits = s.sendQueue.ownWaits) :
    s.Commits own sender b q ev x (s.applyMessage sender b).dropFlight := by
  have hcert := State.certain_of_member h
  have hstill := State.appliedQuietly_certain h hown hb
  have hcounter := s.appliedQuietly_counter sender b
  have hzones := State.appliedQuietly_zone_of_certain (sender := sender) (b := b) hcert
  have hcontroller := s.appliedQuietly_controller sender b
  have hroster := s.appliedQuietly_roster sender b
  have hline := s.appliedQuietly_line sender b
  have hpolicy : (s.appliedQuietly sender b).policy = s.policy := by simp [State.appliedQuietly, State.commitRoster]
  have happly := State.applyMessage_of_reporting (own := own) hcert houtcome
  generalize s.appliedQuietly sender b = u at hstill hcounter hzones hcontroller hroster hline hpolicy happly
  rw [happly ⟨hstill, (congrArg (fun c => c.config.address) hcontroller).trans hown, hpolicy, hcounter, hwaits⟩]
  exact ⟨congrArg Controller.station hcontroller, hroster, hzones, hline, rfl, State.dropFlight_tags _,
    State.dropFlight_find _, rfl, rfl⟩

/-! ## The sender's outcome -/

/-- A receiver has none. -/
theorem State.applyMessage_receiver (h : s.appliesAsMember) (hown : s.own = some own)
    (hb : b.removes sender ≠ some own) (hflight : s.selector.inFlight = none) :
    s.Commits own sender b s.sendQueue s.events s.selector (s.applyMessage sender b).dropFlight :=
  State.applyMessage_commits h hown hb
    (State.senderCommitted_of_no_flight (s := s.appliedQuietly sender b) hflight s.zones) fun _ _ => rfl

/-- R127, R130: the sender of a duty's message has its duty ended. -/
theorem State.applyMessage_duty {m : InFlight} (h : s.appliesAsMember) (hown : s.own = some own)
    (hb : b.removes sender ≠ some own) (hflight : s.selector.inFlight = some m) (hwon : m.claim = .won) :
    (∀ d, m.source = .urgent d →
      s.Commits own sender b s.sendQueue s.events { s.selector with urgent := none }
        (s.applyMessage sender b).dropFlight)
    ∧ (∀ d, m.source = .sync d →
      s.Commits own sender b s.sendQueue s.events { s.selector with sync := none }
        (s.applyMessage sender b).dropFlight) := by
  have hflight' : (s.appliedQuietly sender b).selector.inFlight = some m := hflight
  constructor <;> intro d hsource <;> refine State.applyMessage_commits h hown hb ?_ fun _ _ => rfl <;>
    rw [State.senderCommitted, hflight'] <;> simp only [hwon, if_true, hsource] <;> rfl

/-- R150: the sender of a host request has its entry ended with the outcome. -/
theorem State.applyMessage_entry {m : InFlight} {tag : Byte} {e : SendEntry} {o : ZoneOutcome}
    (h : s.appliesAsMember) (hown : s.own = some own) (hb : b.removes sender ≠ some own)
    (hflight : s.selector.inFlight = some m) (hwon : m.claim = .won) (hsource : m.source = .entry tag)
    (hfind : s.sendQueue.find tag = some e)
    (ho : (s.appliedQuietly sender b).requestOutcome s.zones sender b = some o)
    (hwaits : ∀ z, mem (zoneEffect s.roster sender b z (s.zones.get z)).granted own = true →
      waitsOnOutcome s.sendQueue.ownWaits e o.outcome = s.sendQueue.ownWaits) :
    s.Commits own sender b
      { s.sendQueue.drop tag with ownWaits := waitsOnOutcome s.sendQueue.ownWaits e o.outcome }
      (s.events.place (e.result o.outcome o.position o.set (some (s.roster.counter + 1)))) s.selector
      (s.applyMessage sender b).dropFlight := by
  have hflight' : (s.appliedQuietly sender b).selector.inFlight = some m := hflight
  have hfind' : (s.appliedQuietly sender b).sendQueue.find tag = some e := hfind
  refine State.applyMessage_commits h hown hb ?_ hwaits
  rw [State.senderCommitted, hflight']
  simp only [hwon, if_true, hsource, ho]
  rw [State.endCommitted, hfind', State.appliedQuietly_counter]
  rfl

/-! ## The outcome and the own waits list (R20, R150, R156) -/

theorem granted_ite {c : Prop} [Decidable c] {x y : ZoneChange} {a : Addr} (hx : mem x.granted a = false)
    (hy : mem y.granted a = false) : mem (if c then x else y).granted a = false := by
  split
  · exact hx
  · exact hy

theorem unchangedZone_granted (e : ZoneEntry) (a : Addr) : mem (unchangedZone e).granted a = false := mem_empty a

theorem claimZone_granted (e : ZoneEntry) (s : Addr) (m : LeaseMode) (d : Byte) (w : Bool) (a : Addr) :
    mem (claimZone e s m d w).granted a = false :=
  granted_ite (mem_empty a) (granted_ite (mem_empty a) (granted_ite (mem_empty a)
    (granted_ite (mem_empty a) (mem_empty a))))

/-- R14, R15: a CANCEL takes its sender out of the queue before shared admission. -/
theorem cancelZone_granted (e : ZoneEntry) (s : Addr) : mem (cancelZone e s).granted s = false := by
  refine granted_ite ?_ (mem_empty s)
  rcases sharedAdmission_cases { e with queue := dropWaiter e.queue s } with h | ⟨-, r, -, h⟩ <;> rw [h]
  · exact mem_empty s
  · rw [Bool.eq_false_iff, Ne, mem_runStations]
    rintro ⟨w, hw, hs⟩
    have hmem : w ∈ dropWaiter e.queue s := (List.takeWhile_sublist _).subset hw
    simp [dropWaiter, hs] at hmem

/-- Of the messages that name a zone only a RELEASE can grant a zone to its own sender. -/
theorem zoneEffect_grants_sender {r : Roster} {z y : ZoneId} {e : ZoneEntry} (hz : b.zone? = some z)
    (h : mem (zoneEffect r sender b y e).granted sender = true) : ∃ zone, b = .release zone := by
  refine by_contra fun hnot => ?_
  have hnone : mem (zoneEffect r sender b y e).granted sender = false := by
    cases b with
    | claim zone mode wait d =>
      unfold zoneEffect
      dsimp only
      split
      · exact granted_ite (claimZone_granted _ _ _ _ _ _) (mem_empty sender)
      · exact mem_empty sender
    | renew zone d => exact granted_ite (granted_ite (mem_empty sender) (mem_empty sender)) (mem_empty sender)
    | cancel zone => exact granted_ite (cancelZone_granted e sender) (mem_empty sender)
    | release zone => exact absurd ⟨zone, rfl⟩ hnot
    | found | joinReq | snap | leave | evict | note => exact absurd hz (by simp [Body.zone?])
  simp [hnone] at h

theorem releaseOutcome_cases (e : ZoneEntry) (s : Addr) :
    (releaseOutcome e s).outcome = .released ∨ (releaseOutcome e s).outcome = .notHolder := by
  unfold releaseOutcome
  split
  · exact .inl rfl
  · exact .inr rfl

theorem waitsOnOutcome_of_other {o : RequestOutcome} (hqueued : o ≠ .queued) (hcancelled : o ≠ .cancelled)
    (waits : List OwnWait) (e : SendEntry) : waitsOnOutcome waits e o = waits := by
  unfold waitsOnOutcome
  split
  · exact absurd rfl hqueued
  · exact absurd rfl hcancelled
  · rfl

/-- A zone that the commit of a station's own message grants to it still has its own waits record then. -/
theorem waitsOnOutcome_of_granted {r : Roster} {z y : ZoneId} {entry entry' : ZoneEntry} {o : ZoneOutcome}
    (hz : b.zone? = some z) (ho : zoneOutcome entry sender b = some o)
    (h : mem (zoneEffect r sender b y entry').granted sender = true) (waits : List OwnWait) (e : SendEntry) :
    waitsOnOutcome waits e o.outcome = waits := by
  obtain ⟨zone, rfl⟩ := zoneEffect_grants_sender hz h
  obtain rfl : releaseOutcome entry sender = o := Option.some.inj ho
  rcases releaseOutcome_cases entry sender with hout | hout <;>
    exact waitsOnOutcome_of_other (by simp [hout]) (by simp [hout]) waits e

theorem State.requestOutcome_of_zone (s : State) (before : ZoneTable) {z : ZoneId} (hz : b.zone? = some z) :
    s.requestOutcome before sender b = zoneOutcome (before.get z) sender b := by
  cases b with
  | claim | renew | release | cancel => simp only [State.requestOutcome, hz]
  | found | joinReq | snap | leave | evict | note => exact absurd hz (by simp [Body.zone?])

theorem rosterEffect_of_zone {z : ZoneId} (hz : b.zone? = some z) (r : Roster) (sender : Addr) :
    rosterEffect r sender b = r := by
  cases b with
  | claim | renew | release | cancel => rfl
  | found | joinReq | snap | leave | evict | note => exact absurd hz (by simp [Body.zone?])

theorem Body.removes_of_zone {z : ZoneId} (hz : b.zone? = some z) (sender : Addr) : b.removes sender = none := by
  cases b with
  | claim | renew | release | cancel => rfl
  | found | joinReq | snap | leave | evict | note => exact absurd hz (by simp [Body.zone?])

/-- R156: the record of a queued CLAIM is in the own waits list. -/
theorem mem_waitsOnOutcome_of_queued {e : SendEntry} {y : ZoneId} {mode : LeaseMode} {w d : Byte}
    (hreq : e.request = .claim y mode w d) (hw : w ≠ 0) (waits : List OwnWait) :
    { zone := y, tag := e.tag, mode := mode } ∈ waitsOnOutcome waits e .queued := by
  simp only [waitsOnOutcome, hreq, if_neg hw, addWait]
  simp

theorem waitsOnOutcome_of_cancelled {e : SendEntry} {y : ZoneId} (hreq : e.request = .cancel y)
    {waits : List OwnWait} {w : OwnWait} (hw : w ∈ waitsOnOutcome waits e .cancelled) : w.zone ≠ y := by
  simp [waitsOnOutcome, hreq] at hw
  exact hw.2

/-- R33, R51: the outcome of a NOTE by its destination. -/
theorem State.noteOutcome_eq (s : State) (destination : Byte)
    [Decidable (destination = 16 ∨ ∃ x : Addr, destination.toNat = x.val ∧ s.roster.role x = .member)] :
    s.noteOutcome destination =
      if destination = 16 ∨ ∃ x : Addr, destination.toNat = x.val ∧ s.roster.role x = .member then .delivered
      else .noDest := by
  have hall : destination.toNat = Config.allMembers ↔ destination = 16 := BitVec.toNat_inj (y := 16)
  unfold State.noteOutcome
  by_cases hto : destination = 16
  · rw [if_pos (hall.mpr hto), if_pos (.inl hto)]
  · rw [if_neg (mt hall.mp hto)]
    by_cases hlt : destination.toNat < 16
    · have haddr : addrOf destination = some ⟨destination.toNat, hlt⟩ := dif_pos hlt
      have hmember : (destination = 16 ∨ ∃ x : Addr, destination.toNat = x.val ∧ s.roster.role x = .member) ↔
          s.roster.role ⟨destination.toNat, hlt⟩ = .member :=
        ⟨fun h => by
          obtain ⟨x, hx, hr⟩ := h.resolve_left hto
          obtain rfl : x = ⟨destination.toNat, hlt⟩ := Fin.ext hx.symm
          exact hr,
          fun h => .inr ⟨_, rfl, h⟩⟩
      simp only [haddr, hmember]
    · have haddr : addrOf destination = none := dif_neg hlt
      have hnot : ¬ (destination = 16 ∨ ∃ x : Addr, destination.toNat = x.val ∧ s.roster.role x = .member) := by
        rintro (h | ⟨x, hx, -⟩)
        · exact hto h
        · exact hlt (hx ▸ x.isLt)
      simp only [haddr, if_neg hnot]

/-- R51: a NOTE changes no role, so that its outcome is read from the roster before it. -/
theorem State.requestOutcome_of_note (s : State) (own : Addr) (destination length : Byte) (data : List Byte)
    (before : ZoneTable) :
    (s.appliedQuietly own (.note destination length data)).requestOutcome before own (.note destination length data) =
      some (plainOutcome (s.noteOutcome destination)) := by
  have hroster := s.appliedQuietly_roster own (.note destination length data)
  have hsame : (s.appliedQuietly own (.note destination length data)).noteOutcome destination =
      s.noteOutcome destination := by
    unfold State.noteOutcome
    rw [hroster]
    rfl
  rw [State.requestOutcome, hsame]

/-- A NOTE changes no zone, so that its NOTE record is all that it places. -/
theorem State.commitRecords_note (s : State) (own sender : Addr) (destination length : Byte) (data : List Byte) :
    s.commitRecords own sender (.note destination length data) =
      noteRecordOf own sender (.note destination length data) := by
  have hgrant (z : ZoneId) : s.grantOf own z (unchangedZone (s.zones.get z)) = [] := by
    simp [State.grantOf, unchangedZone_granted]
  have hzone (z : ZoneId) : s.zoneRecordOf z (unchangedZone (s.zones.get z)) = [] := by
    simp [State.zoneRecordOf, unchangedZone]
  simp [State.commitRecords, zoneEffect, hgrant, hzone]

end

/-! ## The verdict point at a member -/

section
variable {s : State} {a b : VerdictCopy} {own addr : Addr} {k : Kind} {body : Body}

theorem State.clusterCommit_of_member (hcert : s.certain = true) (hown : s.own = some own)
    (hfound : body.kind ≠ .found) (hremoves : body.removes addr ≠ some own) :
    s.clusterCommit addr body = s.applyMessage addr body := by
  have hacq := State.acquiring_of_certain hcert
  have hplain : s.plainCommit addr body = s.applyMessage addr body := by simp [State.plainCommit, hacq]
  cases body with
  | found => exact absurd rfl hfound
  | leave r =>
    have hne : own ≠ addr := fun e => hremoves (congrArg some e.symm)
    simp [State.clusterCommit, State.isOwn, hown, hne, hplain]
  | evict x r =>
    have hne : own ≠ x := fun e => hremoves (congrArg some e.symm)
    simp [State.clusterCommit, State.isOwn, hown, hne, hplain]
  | snap index content => simp [State.clusterCommit, hacq]
  | joinReq | claim | renew | release | cancel | note => exact hplain

theorem State.station_of_member (h : s.appliesAsMember) : s.station = .synced ∨ s.station = .leaving :=
  h.imp_right And.left

theorem State.runHoldOffs_of_member (h : s.appliesAsMember) :
    s.runHoldOffs.selector =
      { s.selector with
        snapHold := if s.station = .synced then s.selector.snapHold - 1 else s.selector.snapHold } := by
  rcases State.station_of_member h with hst | hst
  · rw [State.runHoldOffs_snapHold hst, if_pos hst]
  · simp [State.runHoldOffs, hst]

/-- The verdict point of a committed message at a member that it does not remove: the application, in the state whose
hold-off has run and whose commit is counted. -/
theorem exec_commit_of_member (h : s.readsCommit a b addr k body) (hmember : s.appliesAsMember)
    (hown : s.own = some own) (hfound : k ≠ .found) (hremoves : body.removes addr ≠ some own) :
    ∃ x v l, x.inFlight = s.selector.inFlight ∧ x = s.runHoldOffs.selector
      ∧ l.counters.commitsSeen = min (s.line.counters.commitsSeen + 1) 65535
      ∧ exec (.verdictPoint a b) s =
          .next ((((s.setSelector x).setVerdict v).setLine l).applyMessage addr body).dropFlight := by
  have hkind : body.kind ≠ .found := State.readsCommit_kind h ▸ hfound
  obtain ⟨-, -, -, ⟨cls, hclaim⟩, -⟩ := id h
  have hst := State.station_of_member hmember
  obtain ⟨t, hat, hexec⟩ := exec_readsCommit h
    (State.readsCommit_decides h (by rcases hst with hst | hst <;> simp [hst]))
  have hcert := State.certain_of_member hmember
  have hacq := hat.acquiring_eq.trans (State.acquiring_of_certain hcert)
  rw [State.updateStall_of_not_acquiring hacq,
    State.intactCommit_of_cluster (s := t.countCommit) (by
      rcases hst with hst | hst
      · exact .inl (hat.station_eq.trans hst)
      · exact .inr (.inl (hat.station_eq.trans hst)))] at hexec
  obtain ⟨x, v, l, hflight, hheld, -, hline, -⟩ := hat
  have hcommit : (((s.setSelector x).setVerdict v).setLine l).countCommit.clusterCommit addr body = _ :=
    State.clusterCommit_of_member (s := (((s.setSelector x).setVerdict v).setLine l).countCommit) hcert hown hkind
      hremoves
  rw [hcommit] at hexec
  exact ⟨x, v, _, hflight, hheld cls addr hclaim, congrArg lineCount hline.commitsSeen, hexec⟩

end

/-! ## Another station's FOUND (R49) -/

section
variable {s t : State} {a b : VerdictCopy}

/-- A cycle with no SNAP decided committed is one more for a station that goes on acquiring. -/
theorem State.updateStall_of_no_snap (hsnap : t.snapCommitted a b = false) (hacq : s.acquiring = t.acquiring) :
    s.updateStall t a b = s.stallStep := by
  cases ht : t.acquiring with
  | false => rw [State.updateStall_of_not_acquiring ht, State.stallStep_of_not_acquiring (hacq.trans ht)]
  | true => simp [State.updateStall, ht, hacq, hsnap]

/-- A FOUND has no effect at a station in a cluster state but the count of its commit and of its cycle. -/
theorem exec_otherFound {addr : Addr} (h : s.readsCommit a b addr .found .found)
    (hst : s.station = .synced ∨ s.station = .leaving ∨ s.station = .joining ∨ s.station = .doubt)
    (hdue : s.stallDue = false) :
    ∃ x v l, l.counters.commitsSeen = min (s.line.counters.commitsSeen + 1) 65535
      ∧ exec (.verdictPoint a b) s =
          .next ((((s.setSelector x).setVerdict v).setLine l).setSnapshot
            { s.snapshot with
              stall := if s.acquiring then s.snapshot.stall + 1 else s.snapshot.stall }).dropFlight := by
  have hmessage := State.readsCommit_cycleMessage h
  obtain ⟨t, hat, hexec⟩ := exec_readsCommit h (State.readsCommit_decides h hst)
  have heffect : t.countCommit.intactCommit addr .found = t.countCommit := by
    have hstt : t.countCommit.station = s.station := hat.station_eq
    rcases hst with hst | hst | hst | hst <;>
      simp [State.intactCommit, hstt, hst, State.clusterCommit, State.doubtCommit]
  have hsnap : t.snapCommitted a b = false := by
    simp [State.snapCommitted, hat.cycleMessage_eq, hmessage]
  rw [heffect, State.updateStall_of_no_snap (s := t.countCommit) hsnap rfl] at hexec
  obtain ⟨x, v, l, -, -, -, hline, -⟩ := hat
  rw [State.stallStep_of_not_due (s := (((s.setSelector x).setVerdict v).setLine l).countCommit) hdue] at hexec
  exact ⟨x, v, _, congrArg lineCount hline.commitsSeen, hexec⟩

end

end Sys2Proof.Machine

open Sys2Proof Sys2Proof.Machine

/-- Settles O42: at a member the commit is the application after the sender's outcome, and the outcome ends the entry or
the duty that won before the records of the commit; another station's FOUND has no effect. -/
theorem memberAppliesCommit : Obligations.MemberAppliesCommit := by
  refine ⟨?receiver, ?entry, ?note, ?duty, ?found⟩
  case receiver =>
    intro a b s k own addr body h hmember hown hflight hfound hleave hevict
    have hremoves : body.removes addr ≠ some own := by
      cases body with
      | leave r => exact fun e => hleave r rfl (Option.some.inj e).symm
      | evict x r => exact fun e => hevict x r rfl (Option.some.inj e).symm
      | _ => exact nofun
    obtain ⟨x, v, l, hx, -, hseen, hexec⟩ := exec_commit_of_member h hmember hown hfound hremoves
    have ht := State.applyMessage_receiver (s := ((s.setSelector x).setVerdict v).setLine l) hmember hown hremoves
      (hx.trans hflight)
    exact ⟨_, hexec, ht.station, ht.roster, ht.zones, by rw [ht.line]; exact hseen, ht.tags, ht.ownWaits, ht.events⟩
  case entry =>
    intro a b s k own body m tag e z o h hmember hown hflight hwon hsource hfind hz ho
    have hremoves : body.removes own ≠ some own := by simp [Body.removes_of_zone hz]
    have hfound : k ≠ .found := by
      rintro rfl
      have hkind := State.readsCommit_kind h
      cases body <;> simp_all [Body.zone?, Body.kind]
    obtain ⟨x, v, l, hx, -, -, hexec⟩ := exec_commit_of_member h hmember hown hfound hremoves
    have ht := State.applyMessage_entry (s := ((s.setSelector x).setVerdict v).setLine l) hmember hown hremoves
      (hx.trans hflight) hwon hsource hfind ((State.requestOutcome_of_zone _ _ hz).trans ho)
      fun y hy => waitsOnOutcome_of_granted hz ho hy _ e
    have hroster := ht.roster
    rw [rosterEffect_of_zone hz] at hroster
    refine ⟨_, hexec, ht.station, ?_, hroster, ht.zones z, ht.events, fun y mode w d hreq hw hout => ?_,
      fun y hreq hout w hw => ?_⟩
    · rw [ht.find]
      exact congrArg (Option.map _) (SendQueue.find_drop s.sendQueue tag)
    · refine or_iff_not_imp_right.mpr fun hgranted => ?_
      rw [ht.ownWaits, hout, ← SendQueue.find_tag hfind]
      exact List.mem_filter.mpr ⟨mem_waitsOnOutcome_of_queued hreq hw _, by simpa using hgranted⟩
    · rw [ht.ownWaits, hout] at hw
      exact waitsOnOutcome_of_cancelled hreq (List.mem_filter.mp hw).1
  case note =>
    intro a b s own destination length data m tag e h hmember hown hflight hwon hsource hfind
    obtain ⟨x, v, l, hx, -, -, hexec⟩ := exec_commit_of_member h hmember hown nofun nofun
    have ht := State.applyMessage_entry (s := ((s.setSelector x).setVerdict v).setLine l)
      (b := .note destination length data) hmember hown nofun (hx.trans hflight) hwon hsource hfind
      (State.requestOutcome_of_note _ own _ _ _ _) fun y hy => absurd hy (by simp [zoneEffect, unchangedZone])
    have hevents := ht.events
    rw [State.commitRecords_note] at hevents
    refine ⟨_, hexec, ht.station, ?_, vector_ext_get ht.zones, ht.roster, ?_⟩
    · rw [ht.find]
      exact congrArg (Option.map _) (SendQueue.find_drop s.sendQueue tag)
    · rw [hevents, ← State.noteOutcome_eq]
      rfl
  case duty =>
    intro a b s k own body m h hmember hown hflight hwon hduty
    have hremoves : body.removes own ≠ some own := by
      rcases hduty with ⟨-, index, content, -, rfl⟩ | ⟨-, target, reason, -, hne, rfl⟩
      · exact nofun
      · exact fun e => hne (Option.some.inj e)
    have hfound : k ≠ .found := by rcases hduty with ⟨rfl, -⟩ | ⟨rfl, -⟩ <;> decide
    obtain ⟨x, v, l, hx, hheld, hseen, hexec⟩ := exec_commit_of_member h hmember hown hfound hremoves
    obtain ⟨hurgent, hsync⟩ := State.applyMessage_duty (s := ((s.setSelector x).setVerdict v).setLine l) hmember
      hown hremoves (hx.trans hflight) hwon
    rw [State.runHoldOffs_of_member hmember] at hheld
    rcases hduty with ⟨rfl, index, content, hsource, -⟩ | ⟨rfl, target, reason, hsource, -, -⟩
    · have ht := hsync _ hsource
      refine ⟨_, hexec, ht.station, ht.selector.trans ?_, ht.roster, ht.zones, by rw [ht.line]; exact hseen, ht.tags,
        ht.ownWaits, ht.events⟩
      simp [hheld]
    · have ht := hurgent _ hsource
      refine ⟨_, hexec, ht.station, ht.selector.trans ?_, ht.roster, ht.zones, by rw [ht.line]; exact hseen, ht.tags,
        ht.ownWaits, ht.events⟩
      simp [hheld]
  case found =>
    intro a b s addr h hst hdue
    obtain ⟨x, v, l, hseen, hexec⟩ := exec_otherFound h hst hdue
    exact ⟨_, hexec, rfl, rfl, rfl, rfl, rfl, State.dropFlight_tags _, rfl, rfl, rfl, hseen⟩
end
